-- ==== Sys2Proof/Word.lean ====
section
/-! DEFINITION. The widths the manual uses for words and bytes, bit-field reads and writes on whole
words, and the sparse table type every memory and register file of the model is held in. -/

namespace Sys2Proof

/-- One byte of an internal memory or of a wire structure. -/
abbrev Byte := BitVec 8

/-- One register or message word: every register access is a whole 32-bit word (R12). -/
abbrev Word := BitVec 32

/-- Sparse data by key, in one canonical form: keys strictly rising, no entry equal to what an
unlisted key reads as. The operations are in `Sys2Proof/Machine/Tab.lean`. -/
abbrev Tab (α : Type) := List (Nat × α)

/-- The field of a word from bit `lo`, `len` bits wide, as a number. -/
def fld (w : Word) (lo len : Nat) : Nat := w.toNat / 2 ^ lo % 2 ^ len

/-- The word with the field from bit `lo`, `len` bits wide, replaced by `v` (modulo its width). -/
def setFld (w : Word) (lo len v : Nat) : Word :=
  BitVec.ofNat 32 (w.toNat % 2 ^ lo + (v % 2 ^ len) * 2 ^ lo + w.toNat / 2 ^ (lo + len) * 2 ^ (lo + len))

/-- One bit of a word. -/
def bitOf (w : Word) (i : Nat) : Bool := w.getLsbD i

/-- A truth value as the number a one-bit field holds. -/
def b2n (b : Bool) : Nat := if b then 1 else 0

end Sys2Proof
end

