-- ==== Sys2Proof/Machine/Operands.lean ====
section
/-! DEFINITION. The operand forms of the commands: who makes a bus access, the pour header and
fragment, received frames, Adquel messages, Tundish requests and the readings the analog units
deliver. Each follows a table of the manual named in its docstring. -/

namespace Sys2Proof

/-- A host port (Table 00-1): port 1 is absent on the UH6416. -/
inductive Port | p0 | p1
deriving DecidableEq, Repr

/-- The index the manual writes for a port. -/
def Port.idx : Port → Nat
  | .p0 => 0
  | .p1 => 1

/-- The bus masters of Table 09-4 (R201); the March engine is no bus master. -/
inductive Master | cp0 | cp1 | spi | dma | ingress | fettler
deriving DecidableEq, Repr

/-- The master's number in Table 09-4. -/
def Master.num : Master → Nat
  | .cp0 => 0 | .cp1 => 1 | .spi => 2 | .dma => 3 | .ingress => 4 | .fettler => 5

/-- A control processor (R209). -/
inductive Core | cp0 | cp1
deriving DecidableEq, Repr

/-- The core's number in SYS_ROLE ACTIVE. -/
def Core.idx : Core → Nat
  | .cp0 => 0 | .cp1 => 1

/-- The other core. -/
def Core.other : Core → Core
  | .cp0 => .cp1
  | .cp1 => .cp0

/-- The bus master a core is. -/
def Core.master : Core → Master
  | .cp0 => .cp0
  | .cp1 => .cp1

/-- Who reads or writes a mailbox FIFO (Table 10-6): the host over SPI, or a core. -/
inductive MbxAgent | host | core (c : Core)
deriving DecidableEq, Repr

/-- Who sets or clears doorbell bits (R227): the host over SPI, or an internal master. -/
inductive DbAgent | host | internal
deriving DecidableEq, Repr

/-- The route of an Adquel message (R24, R26). -/
inductive Route | port (p : Port) | spi
deriving DecidableEq, Repr

/-- What the port found before classification: a whole frame, a bad frame check sequence, a MACsec
failure, or a full dual-clock FIFO behind the classifier (Table 01-10). -/
inductive RxCheck | good | badFcs | macsecFail | fifoFull
deriving DecidableEq, Repr

/-- The pour header of Table 03-1. -/
structure PourHdr where
  version : BitVec 8
  opcode : BitVec 8
  pourId : BitVec 16
  target : BitVec 8
  format : BitVec 8
  flags : BitVec 16
  w2 : Word
  w3 : Word
  seq : Word
  offset : Word
  fragLen : BitVec 16
  fragIdx : BitVec 16
  crc : Word
deriving DecidableEq, Repr

/-- One pour fragment as the pour engine receives it (R55, R56): its port, the tv bit and time stamp
of its AVTP header, its pour header and its payload bytes. -/
structure PourFrag where
  port : Port
  tv : Bool
  stamp : Word
  hdr : PourHdr
  payload : List Byte
deriving DecidableEq, Repr

/-- The pour opcodes of Table 03-3. -/
inductive PourOp
  | writeRect | fillRect | maskSet | maskClear | patternWrite | glyphWrite
  | layerSet | meshWrite | tableWrite | segWrite | fence | abort
deriving DecidableEq, Repr

/-- How a pour in flight is named: its POUR_ID, and whether the lamp manager injected it (R64, R244). -/
structure PourKey where
  injected : Bool
  id : BitVec 16
deriving DecidableEq, Repr

/-- An Adquel message as it reaches firmware (Table 10-7): its route, on Ethernet the source address and VLAN tag of its frame
(R236), the header fields, whether a reserved header bit is set, and its payload words from W1 on. LEN is the number of payload
words. -/
structure Msg where
  route : Route
  mac : BitVec 48
  vlan : Option (BitVec 16)
  seq : BitVec 8
  gen : BitVec 4
  urgent : Bool
  reply : Bool
  rsvd : Bool
  ws : List Word
deriving DecidableEq, Repr

/-- How a message of the device is framed on Ethernet (R236): the address it goes to, its VLAN tag and the stream ID of its
NTSCF frame. -/
structure EthHead where
  dst : BitVec 48
  vlan : Option (BitVec 16)
  streamId : BitVec 64
deriving DecidableEq, Repr

/-- An ACF message of an NTSCF frame whose opcode byte is not yet told apart from Table 11-2. -/
structure RawMsg where
  opcode : BitVec 8
  msg : Msg
deriving DecidableEq, Repr

/-- The contents of a received frame, past the headers the classifier looks at (Table 01-2). -/
inductive RxBody
  | gptp (bytes : List Byte)
  | macsecCtl (bytes : List Byte)
  | vsf (seqNum : BitVec 8) (frag : PourFrag)
  | ntscf (msgs : List RawMsg)
  | other
deriving DecidableEq, Repr

/-- A received frame after MACsec: its source address, its VLAN tags (outermost first, each its 16 bits of control), the
EtherType behind them, the further fields R16 and R55 examine, and its body. -/
structure RxFrame where
  srcMac : BitVec 48
  tags : List (BitVec 16)
  etherType : BitVec 16
  subtype : BitVec 8
  version : BitVec 3
  sv : Bool
  streamId : BitVec 64
  body : RxBody
deriving DecidableEq, Repr

/-- The 16-bit tag of a transmit stamp (R179): messageType and the low 12 bits of sequenceId. -/
structure GptpTag where
  messageType : BitVec 4
  seqId : BitVec 12
deriving DecidableEq, Repr

/-- What happened at a port's PCS (Table 01-10, LINK). -/
inductive LinkEvent | up | down | newRate
deriving DecidableEq, Repr

/-- The fields of a gPTP message the servo uses (R177), already extended to nanoseconds: the domain,
the grandmaster and priority named, and the origin or receipt time the message carries. -/
structure GptpMsg where
  domain : BitVec 8
  twoStep : Bool
  seqId : BitVec 16
  gm : BitVec 64
  priority : BitVec 64
  originNs : Nat
deriving DecidableEq, Repr

/-- Faults found while one row is produced (R28): a tag-parity error, or an uncorrectable word with its
window offset. -/
inductive LineError | clean | tagParity | uncorrectable (off : Nat) | corrected (off : Nat)
deriving DecidableEq, Repr

/-- One read-back check of a segment output (R165): `early` when it lay within WIN of its target already at
TE, `late` when it did not lie within WIN at 90 % of the slot. -/
structure OutCheck where
  output : Nat
  early : Bool
  late : Bool
deriving DecidableEq, Repr

/-- A 64b/66b block as a return lane receives it: its sync header and its scrambled payload, bit i the i-th payload bit on the
wire (R15, R125). -/
structure RxBlock where
  header : BitVec 2
  payload : BitVec 64
deriving DecidableEq, Repr

/-- What SECDED found in the word read (R194, R287). -/
inductive EccResult | clean | corrected | uncorrectable
deriving DecidableEq, Repr

/-- A fault that SECDED found at a window offset of the Crucible while a command read it (R194). -/
structure CruFault where
  off : Nat
  uncorrectable : Bool
deriving DecidableEq, Repr

/-- What the Fettler's scrub found in a word: nothing, a wrong bit that it corrected, or an uncorrectable error (R194 to R196). -/
inductive ScrubResult | clean | corrected (bit : Nat) | uncorrectable
deriving DecidableEq, Repr

/-- An SPI frame that is neither a READ nor a WRITE (R230): STATUS, another command byte, or one that CS_N ends early. -/
inductive SpiFrame | status | unknown (cmd : BitVec 8) | cut
deriving DecidableEq, Repr

/-- What a Tundish request does: a read, a write, an alias write that sets or clears bits (R202), or a read or write of
TUN_LOCKn, n the request's word (R204). -/
inductive TunOp
  | read | write (v : Word) | setBits (v : Word) | clearBits (v : Word) | lockRead | lockWrite (v : Word)
deriving DecidableEq, Repr

/-- One request of a Tundish batch (R203). -/
structure TunReq where
  master : Master
  word : Nat
  op : TunOp
  ecc : EccResult
deriving DecidableEq, Repr

/-- The multi-message transfers of R249 and R260. -/
inductive XferKind | ingot | firmware
deriving DecidableEq, Repr

/-- The straps sampled at power-good (R299). -/
structure Straps where
  bootsel : BitVec 2
  autolight : Bool
deriving DecidableEq, Repr

/-- The outputs of switched domains (Table 12-8). -/
inductive PinGroup
  | htx (p : Port) | mdio (p : Port) | xspi | tdo | dtx (lane : Nat) | com | seg | pump
deriving DecidableEq, Repr

/-- What an output shows (Table 15-5): high impedance, floating with its domain off, electrical idle, SYN, IDL or PRBS blocks on a
lane, 0 V on a blanked segment output, or what its unit drives. -/
inductive PinState | highZ | floating | idle | syn | idl | prbs | zeroVolt | driven
deriving DecidableEq, Repr

/-- The rails the on-die monitor watches (Table 16-5). -/
inductive Rail | vddCore | vddAon | vddio33 | vddio18 | vddNv
deriving DecidableEq, Repr

/-- The wake sources of R276. -/
inductive WakeSource | wakePin | hwake (p : Port) | timer
deriving DecidableEq, Repr

/-- A DMA descriptor (R267): source and target address and a byte count, and what SECDED finds in the source, by byte of the
transfer (R194, R287). -/
structure DmaDesc where
  src : Nat
  dst : Nat
  len : Nat
  faults : List (Nat × EccResult)
deriving DecidableEq, Repr

/-- What one 1 ms schedule of the ADC delivers (R293): the averaged codes of AIN1 to AIN7 (index 0 is
AIN1) and, for TS0 to TS15, the summed 16-bit code of each of the four elements. -/
structure AdcReadings where
  ain : List (BitVec 12)
  ts : List (List (BitVec 16))
deriving DecidableEq, Repr

/-- What a calibration measures (R297): for a sensor, each element's temperature in S9.7 or `none` when its
excitation check failed, with the sum of its four verification readings; for the ADC, the VREF_EXT code, and each
core's residual in 0.001 LSB and its trims in CAL_ADC layout. -/
inductive CalOutcome
  | sensor (readings verify : List (Option Int))
  | adc (vrefCode : Nat) (residual : List Int) (trim : List (BitVec 16))
deriving DecidableEq, Repr

end Sys2Proof
end

