-- ==== Sys2Proof/Syntax.lean ====
section
/-! DEFINITION. The commands of the block: one constructor for each row of spec/opcode_table.json, with the
operands each command carries. The docstring of a constructor is its row's rule and summary. An operand with a
default names what was found or done beside the command itself; its default says that nothing was. -/

namespace Sys2Proof

/-- A command of the block (spec/opcode_table.json, one row each). -/
inductive Instr
  /-- REGISTER_WRITE (R12): A write to a register that has no row of its own sets its RW, W1C or W1S fields; writes to absent units, reserved words or domains that are off are handled by R5, R13 and R30. -/
  | registerWrite (m : Master) (addr : Nat) (v : Word)
  /-- FRAME_RECEIVE (R16): The classifier of a host port takes a received frame, after MACsec and VLAN removal, and sends it to the pour engine or to firmware, or drops it. -/
  | frameReceive (p : Port) (chk : RxCheck) (f : RxFrame)
  /-- MACSEC_CONTROL_FRAME (R16): An EAPOL or MKA frame is handed to firmware through the Tundish FIFO. -/
  | macsecControlFrame (p : Port) (chk : RxCheck) (bytes : List Byte)
  /-- HOST_FRAME_TRANSMIT (R178): A host port transmits a frame, and stamps it when it is a gPTP event message. -/
  | hostFrameTransmit (p : Port) (ev : Option GptpTag) (pnLimit : Bool)
  /-- LINK (R18): A host port PCS gains or loses block lock, or USXGMII auto-negotiation completes at a new rate. -/
  | link (p : Port) (ev : LinkEvent)
  /-- PHY_WAKE (R18): HWAKEp_N falls while PD_HOSTp is ON. -/
  | phyWake (p : Port)
  /-- WRITE_RECT (R59): The first fragment of a WRITE_RECT pour is accepted, checked, and enters the runner of every tile it touches. -/
  | writeRect (f : PourFrag)
  /-- FILL_RECT (R59): The first fragment of a FILL_RECT pour is accepted, checked, and enters the runners of its tiles. -/
  | fillRect (f : PourFrag)
  /-- MASK_SET (R78): A MASK_SET pour is accepted and, once its LAST fragment and records check, is armed for a line boundary. -/
  | maskSet (f : PourFrag)
  /-- MASK_CLEAR (R78): A MASK_CLEAR pour is accepted and armed to clear masks at a line boundary. -/
  | maskClear (f : PourFrag)
  /-- PATTERN_WRITE (R67): A PATTERN_WRITE pour is accepted and enters the store runner. -/
  | patternWrite (f : PourFrag)
  /-- GLYPH_WRITE (R67): A GLYPH_WRITE pour is accepted and enters the store runner. -/
  | glyphWrite (f : PourFrag)
  /-- LAYER_SET (R68): A LAYER_SET table pour is accepted and enters the store runner. -/
  | layerSet (f : PourFrag)
  /-- MESH_WRITE (R59): A MESH_WRITE table pour is accepted, checked against the fixed mesh, and enters the store runner. -/
  | meshWrite (f : PourFrag)
  /-- TABLE_WRITE (R60): A TABLE_WRITE pour to a table of the inactive set is accepted and enters the store runner. -/
  | tableWrite (f : PourFrag)
  /-- SEG_WRITE (R70): A SEG_WRITE pour is accepted and enters the segment runners of the segment blocks it touches. -/
  | segWrite (f : PourFrag)
  /-- FENCE (R75): A FENCE is accepted and orders every earlier tile, store, table and segment pour before every later one. -/
  | fence (f : PourFrag)
  /-- ABORT (R76): An ABORT acts at acceptance of its LAST fragment and removes its target pour, or finds it already committed or unknown. -/
  | abortPour (f : PourFrag)
  /-- POUR_FRAGMENT (R61): A later fragment of a pour in flight is matched by POUR_ID and port, and checked for order, offset and CRC, or dropped as an orphan. -/
  | pourFragment (f : PourFrag)
  /-- FRAG_TIMEOUT (R61): A pour whose LAST fragment has not arrived within FRAG_TMO ends with TIMEOUT. -/
  | fragTimeout (key : PourKey)
  /-- TILE_MERGE (R66): A partial tile's shadow slot is completed from the tile's content once the earlier pours in its runner have ended. -/
  | tileMerge (key : PourKey) (tile : Nat) (faults : List CruFault := [])
  /-- STORE_COPY_END (R67): The copy of a committed store pour into the pattern area or glyph store ends, and the store runner advances. -/
  | storeCopyEnd
  /-- TABLE_POUR_WRITE (R68): A table pour at the head of the store runner, complete, due and with the inactive set free, is checked and its write into the inactive set starts. -/
  | tablePourWrite
  /-- TABLE_POUR_WRITE_END (R68): The write of a table pour into the inactive set ends, and a pour without SWITCH completes. -/
  | tablePourWriteEnd
  /-- SET_SYNC_END (R69): The set sync after a switch ends, and the inactive set becomes free when no waveform tag names it. -/
  | setSyncEnd (faults : List CruFault := [])
  /-- FENCE_COMPLETE (R75): A FENCE completes once every pour ahead of it has committed or been removed. -/
  | fenceComplete
  /-- POUR_RESULT_POP (R80): A write of POP to POUR_RESSTAT removes the oldest result record. -/
  | pourResultPop
  /-- FLUSH (R83): A write of 1 to POUR_CTRL FLUSH stops acceptance and ends every pour that has not reached its commit point with ABORTED. -/
  | flush
  /-- FLUSH_END (R83): The last pour of a flush ends, FLUSH clears and event 131 (FLUSHED) is raised. -/
  | flushEnd
  /-- STREAM_ENABLE (R83): A write of POUR_CTRL with EN0 or EN1 going from 0 to 1 resumes acceptance on that stream and resets its EXP. -/
  | streamEnable (p : Port)
  /-- FRAME_START_EDGE (R181): A frame-start edge fires: S1 tags the new frame, due pours commit, offsets slew, masks age, Temper values and FIT are published, and the SOF sequence begins. -/
  | frameStartEdge
  /-- MASK_EXPIRY (R53): A mask whose remaining frame count has reached 0 is removed at the edge. -/
  | maskExpiry (i : Fin 256)
  /-- FRAME_LAUNCH (R25): The SOF of a frame has been sent on every carrying forward lane, and replies waiting for that frame are sent. -/
  | frameLaunch
  /-- LINE_SCAN (R85): The pipeline composes, corrects, gates, dithers and packs one row of the grid and sends its slice lines. -/
  | lineScan (row : Nat) (err : LineError)
  /-- POISON_HALT (R29): After 16 consecutive frames with poisoned lines every forward lane is placed in electrical idle and event 194 is raised. -/
  | poisonHalt
  /-- MASK_LINE_BOUNDARY (R52): At a line boundary at S6 the armed mask pours are written into the live mask table in stream order. -/
  | maskLineBoundary
  /-- TILE_ROW_UPDATE (R112): Once the last line of a tile row has left S4, the Temper engine updates the nodes, wear, factors and, after the last row, Sglob of its tiles. -/
  | tileRowUpdate (row : Nat) (faults : List CruFault := [])
  /-- TEMPER_TICK (R119): On each 1 ms tick the Temper engine takes Tj, forms the power estimate, updates the Burst budget and sets TRIP, ALLOW and SHED. -/
  | temperTick
  /-- BURST_EXHAUSTED (R120): The Burst budget reaches 0 while in BURST, ALLOW falls and event 259 is raised. -/
  | burstExhausted
  /-- SHED_END (R121): Tj has stayed below 125 °C for 1 s, SHED clears and event 262 is raised. -/
  | shedEnd
  /-- TEMPER_STEP (R122): At the first edge at least 2 µs after a trip, shed or exhaustion, the hardware steps PD_PIPE down and loads the fallback or shed period. -/
  | temperStep
  /-- ACK_RECEIVE (R134): An ACK block arrives on a return lane and updates credit, NAK, lock and CFG state of its driver. -/
  | ackReceive (n : Fin 64) (b : RxBlock)
  /-- RBD_RECEIVE (R150): A read-back data block arrives and its samples are compared with the expected values. -/
  | rbdReceive (n : Fin 64) (b : RxBlock)
  /-- ALM_RECEIVE (R155): An alarm block arrives, is latched in LNKn_ALM0 and LNKn_ALM1, and event 704 + n is raised. -/
  | almReceive (n : Fin 64) (b : RxBlock)
  /-- CAL_RECEIVE (R146): A CAL chunk of an identity or calibration image arrives and is placed by its index; a complete image is checked and applied. -/
  | calReceive (n : Fin 64) (b : RxBlock)
  /-- FOM_RECEIVE (R154): A FOM block arrives and updates figure of merit and driver temperature, raising event 576 + n on a crossing below FOMMIN. -/
  | fomReceive (n : Fin 64) (b : RxBlock)
  /-- SYN_RECEIVE (R144): A SYN block arrives; it advances training to preset choice or UP, or returns an UP lane to TRAIN. -/
  | synReceive (n : Fin 64) (b : RxBlock)
  /-- BLOCK_LOCK_GAIN (R127): A return receiver gains block lock after 64 consecutive valid headers. -/
  | blockLockGain (n : Fin 64)
  /-- BLOCK_LOCK_LOSS (R127): A return receiver loses block lock after 16 invalid headers in 64, and the lane fails. -/
  | blockLockLoss (n : Fin 64)
  /-- LANE_SIGNAL_DETECT (R144): A lane in DETECT has seen return signal for 1 µs and enters TRAIN. -/
  | laneSignalDetect (n : Fin 64)
  /-- LANE_SIGNAL_LOSS (R148): A return lane has shown no signal for 1 µs; the lane fails and a slice with no signal becomes ABSENT with cause 8. -/
  | laneSignalLoss (n : Fin 64)
  /-- LANE_RECOVER (R140): A FAILED lane has shown signal and lock for 1 ms with RXL set and enters TRAIN. -/
  | laneRecover (n : Fin 64)
  /-- PRESET_STEP (R144): A 1 ms preset trial ends; the lane moves to the next preset or keeps the best by FOM. -/
  | presetStep (n : Fin 64)
  /-- TRAIN_TIMEOUT (R144): A lane not UP within 20 ms of entering TRAIN returns to DETECT for 100 ms with cause 2. -/
  | trainTimeout (n : Fin 64)
  /-- DETECT_HOLDOFF_END (R144): The 100 ms wait after a failed training ends and the lane resumes DETECT. -/
  | detectHoldoffEnd (n : Fin 64)
  /-- MGMT_BLOCK_SEND (R134): A CFG or RBQ is sent to a driver once its credit allows. -/
  | mgmtBlockSend (sl : Fin 64)
  /-- CAL_LOAD_START (R146): A slice whose identity passed starts loading once LNK_CAL DONE is 0, by sending SEND_CAL. -/
  | calLoadStart (sl : Fin 64)
  /-- CAL_LOAD_TIMEOUT (R146): A calibration image not complete within 200 ms fails with cause 5 and is retried once. -/
  | calLoadTimeout (sl : Fin 64)
  /-- LNK_CAL_DONE_CLEAR (R147): A write of 1 to LNK_CAL DONE ends the load hand-over and lets the next module load. -/
  | lnkCalDoneClear
  /-- READBACK_TIMEOUT (R150): A read-back query not answered within two frame periods is counted in RBTMO. -/
  | readbackTimeout (sl : Fin 64)
  /-- ERROR_LIMIT (R154): The count of BLK, NAK and OVF in one window reaches LIMIT and event 576 + n is raised. -/
  | errorLimit (n : Fin 64)
  /-- ERROR_INJECT (R152): A write of 1 to LNKn_PRBS INJ inverts one or 16 bits of the next forward data. -/
  | errorInject (n : Fin 64) (burst : Bool)
  /-- EYE_SCAN (R153): A write of 1 to LNKn_EYE GO starts an eye scan of the return lane. -/
  | eyeScan (n : Fin 64)
  /-- EYE_SCAN_END (R153): An eye scan ends and WIDTH and HEIGHT are reported. -/
  | eyeScanEnd (n : Fin 64) (width : Nat) (height : Nat)
  /-- LANE_EN_WRITE (R144): A write of LNKn_CTRL EN enables a lane into DETECT or turns it OFF. -/
  | laneEnWrite (n : Fin 64) (en : Bool)
  /-- LANE_TAKE_WRITE (R151): A write of LNKn_CTRL TAKE takes the lane for test or returns it to TRAIN. -/
  | laneTakeWrite (n : Fin 64) (take : Bool)
  /-- LANE_RATE_WRITE (R144): A write that changes LNKn_CTRL RATE on an UP lane returns it to TRAIN. -/
  | laneRateWrite (n : Fin 64) (rate : BitVec 2)
  /-- LINK_EN_WRITE (R156): A write of LNK_CTRL EN turns the link on or every lane OFF. -/
  | linkEnWrite (en : Bool)
  /-- SEGMENT_FRAME_START (R157): A segment frame starts: it is stamped, frame-latched segment settings and due SEG_WRITE pours and the Ingot segment image take effect, and a pending blank applies. -/
  | segmentFrameStart
  /-- SEGMENT_SLOT (R158): A segment slot begins, outputs are driven to their levels and read-back checks are made. -/
  | segmentSlot (checks : List OutCheck)
  /-- SEGMENT_ENABLE (R160): Setting SEG_CTRL EN starts segment frames once VLCD_OK is 1, with F restarting at 0. -/
  | segmentEnable
  /-- SEGMENT_DISABLE (R160): Clearing SEG_CTRL EN lets the frame complete and then blanks every output. -/
  | segmentDisable
  /-- VLCD_FAULT (R162): VLCD has lain outside SET ± 10 % for 1 ms; VLCD_OK clears, event 770 is raised and the port blanks after the slot. -/
  | vlcdFault
  /-- VLCD_OK_SET (R162): VLCD has stayed within SET ± 5 % for 1 ms, or 10 ms after a fault, and VLCD_OK sets. -/
  | vlcdOkSet
  /-- VSRC_WRITE (R162): A write to SEG_CTRL VSRC selects the VLCD source and clears VLCD_OK. -/
  | vsrcWrite (v : BitVec 2)
  /-- TIME_SET (R172): A write to TIME_SET loads TIME_NS while frame edges are off, and is refused otherwise. -/
  | timeSet (v : Word)
  /-- TIME_ADJ (R173): A write to TIME_ADJ replaces any adjustment and starts slewing out the offset. -/
  | timeAdj (v : Word)
  /-- ADJUST_END (R173): The remaining adjustment reaches 0 and the slew stops. -/
  | adjustEnd
  /-- TIME_NS_READ (R171): A read of TIME_NS latches TIME_FRAC and TIME_WRAP in the same cycle. -/
  | timeNsRead
  /-- TIME_NS_WRAP (R171): TIME_NS passes from 0xFFFF_FFFF to 0 and TIME_WRAP advances. -/
  | timeNsWrap
  /-- FRAME_EDGES_ENABLE (R181): Setting TIME_FCTRL EN finds the first frame at least 20 µs ahead and starts frame edges. -/
  | frameEdgesEnable
  /-- FRAME_EDGES_DISABLE (R182): Clearing TIME_FCTRL EN stops frame edges and loads a pending Temper period into TIME_PERIOD. -/
  | frameEdgesDisable
  /-- PERIOD_WRITE (R182): A write to TIME_PERIOD while EN = 1 takes effect at the next edge and rebases the epoch. -/
  | periodWrite (v : Word)
  /-- TXQ_POP (R179): A write of TIME_TXQ2 POP removes the oldest transmit stamp. -/
  | txqPop (p : Port)
  /-- SYNC_PIN_EDGE (R185): A selected edge on a SYNC pin is stamped and updates or unlocks the mode-2 windows that use it. -/
  | syncPinEdge (i : Fin 4) (rising : Bool)
  /-- SYNC (R177): A gPTP Sync message is received and stamped for the servo. -/
  | syncMsg (p : Port) (m : GptpMsg)
  /-- FOLLOW_UP (R177): A gPTP Follow_Up is received and the servo measures offset and corrects the rate or adjusts. -/
  | followUp (p : Port) (m : GptpMsg)
  /-- ANNOUNCE (R177): A gPTP Announce is received and best-master selection runs. -/
  | announce (p : Port) (m : GptpMsg)
  /-- PDELAY_REQ (R177): A Pdelay_Req is received and firmware responds. -/
  | pdelayReq (p : Port) (m : GptpMsg)
  /-- PDELAY_RESP (R177): A Pdelay_Resp is received for the device's own peer-delay request. -/
  | pdelayResp (p : Port) (m : GptpMsg)
  /-- PDELAY_RESP_FOLLOW_UP (R177): A Pdelay_Resp_Follow_Up is received and the link delay is computed. -/
  | pdelayRespFollowUp (p : Port) (m : GptpMsg)
  /-- SIGNALING (R177): A gPTP signaling message is received and counted without action. -/
  | signaling (p : Port) (m : GptpMsg)
  /-- SYNC_RECEIPT_TIMEOUT (R180): No Sync has been accepted for syncReceiptTimeout and the servo enters holdover. -/
  | syncReceiptTimeout
  /-- GRID_ALIGN (R302): At the servo's first lock in a boot, firmware pauses edges after one, sets time and the stored grid, and restarts them. -/
  | gridAlign (offset : Int)
  /-- CRUCIBLE_WINDOW_ACCESS (R193): A processor-window read or read-modify-write of a Crucible word is served in the shared slot. -/
  | crucibleWindowAccess (m : Master) (off : Nat) (wr : Option Word) (ecc : EccResult) (spareBad : Bool)
  /-- SCRUB_READ (R195): The Fettler scrub reads a word, corrects it and writes it back unless another write intervened. -/
  | scrubRead (off : Nat) (found : ScrubResult)
  /-- COLUMN_FILL_END (R196): The fill of a spare column ends and reads use it. -/
  | columnFillEnd (faults : List CruFault := [])
  /-- SCRUB_PASS_END (R195): A scrub pass ends and event 320 + l is raised for each bank whose corrected count reached RETIRE. -/
  | scrubPassEnd
  /-- BANK_RETIRE (R197): A write of FET_RET GO with BANK starts retirement of a logical bank to the lowest spare. -/
  | bankRetire (bank : Nat) (bad : Nat)
  /-- RETIREMENT_QUEUED_START (R197): A queued retirement starts when the running one ends. -/
  | retirementQueuedStart (bad : Nat)
  /-- RETIREMENT_COPY_END (R199): The bank copy ends, the map switches to the spare and event 457 is raised, then the March starts. -/
  | retirementCopyEnd (spareBad : Bool := false) (faults : List CruFault := [])
  /-- RETIREMENT_MARCH_END (R199): The March of the retired bank ends and sets it RETIRED, or OUT with event 458. -/
  | retirementMarchEnd (pass : Bool)
  /-- TUNDISH_BATCH (R203): When the Tundish port is free, every request present is served as one batch in ascending master number. -/
  | tundishBatch (reqs : List TunReq)
  /-- TUN_LOCK_READ (R204): A read of TUN_LOCKn takes a free lock or returns the owner + 1. -/
  | tunLockRead (m : Master) (n : Fin 64)
  /-- TUN_LOCK_WRITE (R204): A write of the owner's number to TUN_LOCKn frees the lock. -/
  | tunLockWrite (m : Master) (n : Fin 64) (v : Word)
  /-- MARCH_RUN (R206): A write of TUN_MARCH GO starts a destructive or preserving March over the named blocks, or is refused. -/
  | marchRun (first : Nat) (last : Nat) (preserving : Bool)
  /-- MARCH_BLOCK_DONE (R207): The March of one block ends, with copy-back for a preserving run or permanent redirection on failure. -/
  | marchBlockDone (pass : Bool)
  /-- MARCH_END (R206): A March run ends and event 899 is raised. -/
  | marchEnd
  /-- BOOT_ROM_RUN (R212): A core leaving reset runs the Boot ROM, which reads, verifies and starts a firmware image or enters recovery. -/
  | bootRomRun (c : Core) (xspiError : List Nat := [])
  /-- FIRMWARE_START (R300): Firmware at ENTRY loads the NV records, restores state, starts frame edges and, with AUTOLIGHT high, brings the lamp to INGOT. -/
  | firmwareStart (c : Core)
  /-- ARB_TARGET_WRITE (R214): A write of SEC_ARB TARGET blows anti-rollback fuses up to TARGET and raises event 908. -/
  | arbTargetWrite (m : Master) (target : Nat)
  /-- ROLE_SWAP (R217): A write of SYS_ROLE SWAP by the active core with STBY_RDY = 1 sets PENDING. -/
  | roleSwap (m : Master)
  /-- SWAP_APPLY (R217): At the next edge, or 10 µs later without edges, the consumer role moves to the other core and event 3 is raised. -/
  | swapApply
  /-- HANDOVER_TIMEOUT (R218): STBY_RDY is not set within 2 s of FW_HANDOVER, the handover is abandoned and event 4 is raised. -/
  | handoverTimeout
  /-- WATCHDOG_KICK (R219): A write of 0x5A to SYS_WDT KICK restarts the watchdog count. -/
  | watchdogKick (c : Core) (v : BitVec 8)
  /-- WATCHDOG_EXPIRE (R219): A core's watchdog expires, event 0 or 1 is raised, and the core is reset or a takeover is scheduled. -/
  | watchdogExpire (c : Core)
  /-- TAKEOVER (R219): At the next edge the standby core takes the consumer role, the device generation advances and event 2 is raised. -/
  | takeover
  /-- MAILBOX_POST (R220): A word is written to a mailbox FIFO, and the whole message becomes visible when its last word arrives. -/
  | mailboxPost (w : MbxAgent) (d : Fin 4) (v : Word)
  /-- MAILBOX_POP (R220): A read of a mailbox FIFO pops one visible word and reduces OLDW. -/
  | mailboxPop (r : MbxAgent) (d : Fin 4)
  /-- HOST_GENERATION_WRITE (R223): A write at SPI 0x00_0008 sets the host generation, discarding an incomplete HMB message. -/
  | hostGenerationWrite (v : Word)
  /-- DOORBELL_SET (R227): A write to DB_SET sets doorbell bits and may assert HIRQ_N or a core interrupt. -/
  | doorbellSet (a : DbAgent) (t : Fin 4) (bits : Word)
  /-- DOORBELL_CLEAR (R227): A write to DB_CLR clears doorbell bits and may release HIRQ_N. -/
  | doorbellClear (a : DbAgent) (t : Fin 4) (bits : Word)
  /-- HEARTBEAT (R229): Firmware sets host doorbell bit 31 every heartbeat period. -/
  | heartbeat
  /-- SPI_STATUS (R230): An SPI STATUS command returns the status byte. -/
  | spiStatus (f : SpiFrame := .status)
  /-- DEBUG_WINDOW_READ (R231): An SPI READ in the debug window forwards a read into internal space, or is DENIED in PRODUCTION. -/
  | debugWindowRead (addr : Nat) (inTime : Bool := false)
  /-- DEBUG_WINDOW_WRITE (R231): An SPI WRITE in the debug window is posted, or refused BUSY or DENIED. -/
  | debugWindowWrite (addr : Nat) (v : Word)
  /-- DEBUG_ACCESS_COMPLETE (R231): A forwarded debug read or posted write completes inside the device, setting PWERR on a bus error. -/
  | debugAccessComplete
  /-- DBG_BASE_WRITE (R31): An SPI write of DBG_BASE moves the debug window, or is DENIED in PRODUCTION. -/
  | dbgBaseWrite (v : Word)
  /-- EVENT_SOFTWARE_SET (R233): A write of EVT_SWSET GO latches a source of group 15. -/
  | eventSoftwareSet (src : Nat)
  /-- EVENT_ENABLE_WRITE (R232): A write of EVT_EN enables sources and sets the routed bit for any already latched. -/
  | eventEnableWrite (i : Fin 32) (v : Word)
  /-- IDENTIFY (R241): The host's IDENTIFY request is answered with capabilities, level, release, unique ID, generations, lamp state and boot status. -/
  | identify (q : Msg)
  /-- GET_STATUS (R242): GET_STATUS returns status words S0 to S8. -/
  | getStatus (q : Msg)
  /-- STATUS (R242): Every 1 ms firmware sends an unsolicited STATUS message with results on each configured route. -/
  | statusMsg
  /-- CONFIG_SET (R253): CONFIG_SET checks and sets one configuration item. -/
  | configSet (q : Msg)
  /-- CONFIG_GET (R253): CONFIG_GET returns the value of one configuration item. -/
  | configGet (q : Msg)
  /-- LAMP_STATE (R245): LAMP_STATE requests a lamp-state change by cut or fade according to Table 11-4. -/
  | lampState (q : Msg)
  /-- PATTERN_SELECT (R250): PATTERN_SELECT sets a layer to a pattern slot and commits it with SWITCH. -/
  | patternSelect (q : Msg)
  /-- LEVEL_SET (R251): LEVEL_SET commits new offset targets and slew limits with SWITCH. -/
  | levelSet (q : Msg)
  /-- INGOT_STORE_BEGIN (R249): INGOT_STORE BEGIN opens or restarts an Ingot transfer with its length and CRC. -/
  | ingotStoreBegin (q : Msg)
  /-- INGOT_STORE_DATA (R249): INGOT_STORE DATA carries image bytes at the next offset. -/
  | ingotStoreData (q : Msg)
  /-- INGOT_STORE_END (R249): INGOT_STORE END checks length, CRC and form and writes the copy not in force. -/
  | ingotStoreEnd (q : Msg)
  /-- MASK_SET_MESSAGE (R252): The MASK_SET message sets or clears masks through the mask fast path in merge order. -/
  | maskSetMessage (q : Msg)
  /-- EVENT_READ (R254): EVENT_READ returns a group's status bits and stamps, clearing them with CLEAR. -/
  | eventRead (q : Msg)
  /-- EVENT_CONFIG (R254): EVENT_CONFIG sets enable and route of consecutive sources of one group. -/
  | eventConfig (q : Msg)
  /-- TIME_STATUS (R255): TIME_STATUS returns servo state, grandmaster, time, offsets and error. -/
  | timeStatus (q : Msg)
  /-- TIME_CONFIG_THR (R256): TIME_CONFIG item 0 sets the re-route threshold. -/
  | timeConfigThr (q : Msg)
  /-- TIME_CONFIG_SLEW (R256): TIME_CONFIG item 1 sets the slew rate. -/
  | timeConfigSlew (q : Msg)
  /-- TIME_CONFIG_HOLDOVER (R256): TIME_CONFIG item 2 sets hdrift and hage. -/
  | timeConfigHoldover (q : Msg)
  /-- TIME_CONFIG_ASYM (R256): TIME_CONFIG item 3 sets TIME_ASYM of a port. -/
  | timeConfigAsym (q : Msg)
  /-- TIME_CONFIG_LAT (R256): TIME_CONFIG item 4 sets TIME_LAT of a port. -/
  | timeConfigLat (q : Msg)
  /-- TIME_CONFIG_JOIN (R256): TIME_CONFIG item 5 joins a frame grid, pausing edges in DARK, and is DENIED in LIT, INGOT and SERVICE. -/
  | timeConfigJoin (q : Msg)
  /-- TIME_CONFIG_WINDOW (R256): TIME_CONFIG item 6 sets an exposure-window descriptor. -/
  | timeConfigWindow (q : Msg)
  /-- CAL_RUN (R257): CAL_RUN starts a calibration of a sensor, the ADC or all sensors and replies on completion. -/
  | calRun (q : Msg)
  /-- CAL_READ (R257): CAL_READ returns a factory or user calibration entry. -/
  | calRead (q : Msg)
  /-- NV_READ (R258): NV_READ returns 1 to 12 NV words as stored. -/
  | nvRead (q : Msg) (faults : List (Nat × EccResult) := [])
  /-- NV_WRITE (R258): NV_WRITE writes 1 to 13 words in a writable NV range. -/
  | nvWrite (q : Msg)
  /-- NV_SAVE_NOW (R258): NV_SAVE_NOW saves the wear, operating-hours, log-tail or configuration records and replies after the saves. -/
  | nvSaveNow (q : Msg)
  /-- FW_STAGE_BEGIN (R260): FW_STAGE BEGIN opens an image transfer and erases the idle slot. -/
  | fwStageBegin (q : Msg)
  /-- FW_STAGE_DATA (R260): FW_STAGE DATA carries image words into the idle slot. -/
  | fwStageData (q : Msg)
  /-- FW_STAGE_END (R260): FW_STAGE END checks the staged image by R212. -/
  | fwStageEnd (q : Msg)
  /-- TRANSFER_TIMEOUT (R249): An open INGOT_STORE or FW_STAGE transfer with no message for 1 s is closed. -/
  | transferTimeout (k : XferKind)
  /-- FW_COMMIT (R260): FW_COMMIT raises the fuse count to the running image's ARBVER and names its slot preferred. -/
  | fwCommit (q : Msg)
  /-- FW_HANDOVER (R260): FW_HANDOVER starts a hot handover to the staged image on the standby core. -/
  | fwHandover (q : Msg)
  /-- SELFTEST_MARCH_PRESERVING (R261): SELFTEST 0x01 runs a preserving Tundish March. -/
  | selftestMarchPreserving (q : Msg)
  /-- SELFTEST_MARCH_DESTRUCTIVE (R261): SELFTEST 0x02 runs a destructive Tundish March over free blocks. -/
  | selftestMarchDestructive (q : Msg)
  /-- SELFTEST_SCRUB (R261): SELFTEST 0x03 runs a Crucible scrub pass now. -/
  | selftestScrub (q : Msg)
  /-- SELFTEST_BANK_RETIRE (R261): SELFTEST 0x04 retires a logical Crucible bank. -/
  | selftestBankRetire (q : Msg)
  /-- SELFTEST_LANE_PRBS (R261): SELFTEST 0x05 runs a PRBS test on a lane. -/
  | selftestLanePrbs (q : Msg)
  /-- SELFTEST_EYE_SCAN (R261): SELFTEST 0x06 runs a return-lane eye scan. -/
  | selftestEyeScan (q : Msg)
  /-- SELFTEST_READBACK_SWEEP (R261): SELFTEST 0x07 runs a read-back sweep of all rows. -/
  | selftestReadbackSweep (q : Msg)
  /-- SELFTEST_SEGMENT_SWEEP (R261): SELFTEST 0x08 runs a segment output sweep. -/
  | selftestSegmentSweep (q : Msg)
  /-- SELFTEST_TEST_FRAME (R261): SELFTEST 0x09 runs a pipeline test frame and reports its CRC. -/
  | selftestTestFrame (q : Msg)
  /-- SELFTEST_SENSOR_CHECK (R261): SELFTEST 0x0A checks sensor and ADC elements. -/
  | selftestSensorCheck (q : Msg)
  /-- SELFTEST_PIXEL_SCAN (R261): SELFTEST 0x0B runs a driver pixel open and short scan on a slice. -/
  | selftestPixelScan (q : Msg)
  /-- LANE_CTRL_RESTORE (R262): LANE_CTRL action 0 restores pair carriage at the next edge. -/
  | laneCtrlRestore (q : Msg)
  /-- LANE_CTRL_ENABLE (R262): LANE_CTRL action 1 sets the lane's EN. -/
  | laneCtrlEnable (q : Msg)
  /-- LANE_CTRL_DISABLE (R262): LANE_CTRL action 2 clears the lane's EN. -/
  | laneCtrlDisable (q : Msg)
  /-- LANE_CTRL_RETRAIN (R262): LANE_CTRL action 3 returns the lane to training. -/
  | laneCtrlRetrain (q : Msg)
  /-- LANE_CTRL_RATE (R262): LANE_CTRL action 4 sets RATE on both lanes of a pair. -/
  | laneCtrlRate (q : Msg)
  /-- LANE_CTRL_TAKE (R262): LANE_CTRL action 5 sets or clears TAKE. -/
  | laneCtrlTake (q : Msg)
  /-- LANE_CTRL_REPORT (R262): LANE_CTRL action 6 reports the lane, pair and slice state only. -/
  | laneCtrlReport (q : Msg)
  /-- POWER_VOTE_DOMAIN (R263): POWER_VOTE kind 0 adds or withdraws the host's vote on a domain. -/
  | powerVoteDomain (q : Msg)
  /-- POWER_VOTE_STATE (R263): POWER_VOTE kind 1 requests a device state through the sequencer. -/
  | powerVoteState (q : Msg)
  /-- POWER_VOTE_OP (R263): POWER_VOTE kind 2 requests an operating point through the sequencer. -/
  | powerVoteOp (q : Msg)
  /-- LOG_READ (R259): LOG_READ returns one event-log record counted back from the newest. -/
  | logRead (q : Msg)
  /-- STREAM_LOSS (R246): No host pour has been accepted for STREAM_TMO while LIT; event 960 is raised and a fade to INGOT starts. -/
  | streamLoss
  /-- VOTE_WRITE (R266): A write to PWR_VOTE sets and clears vote bits, switching a domain on or sending it to DRAINING. -/
  | voteWrite (d : Fin 12) (v : Word)
  /-- DOMAIN_ON (R264): A domain completes switch-on and restores its retained registers. -/
  | domainOn (d : Fin 12)
  /-- DRAIN_END (R268): The last open transaction of a DRAINING domain ends, and it is saved, isolated and switched off or retained. -/
  | drainEnd (d : Fin 12)
  /-- DRAIN_TIMEOUT (R268): The drain time limit passes; open transactions end with DOMAIN_OFF, FORCED is set and event 9 is raised. -/
  | drainTimeout (d : Fin 12)
  /-- DMA_TRANSFER (R267): A DMA transfer starts, takes implicit votes, or ends at once with DOMAIN_OFF. -/
  | dmaTransfer (t : DmaDesc)
  /-- DMA_TRANSFER_END (R267): A DMA transfer completes or stops at an uncorrectable NV group, releasing its implicit votes. -/
  | dmaTransferEnd
  /-- PWR_REQ_STATE (R270): A PWR_REQ write of kind 1 makes a device-state request with a ticket. -/
  | pwrReqState (m : Master) (client : Nat) (target : Nat)
  /-- PWR_REQ_OP (R270): A PWR_REQ write of kind 2 makes an operating-point request with a ticket. -/
  | pwrReqOp (m : Master) (client : Nat) (target : Nat)
  /-- REQUEST_START (R271): When a transition ends, the pending request starts and acts on votes and the OP target. -/
  | requestStart
  /-- OP_SWITCH (R272): At the first edge after preparation, or 10 µs later without edges, PD_PIPE switches frequency. -/
  | opSwitch
  /-- PLL_PREPARE_END (R272): The 2 µs preparation of the second PLL output ends. -/
  | pllPrepareEnd
  /-- AVS_TRANSACTION_END (R273): A VOUT_COMMAND transaction completes, or fails after retries and raises event 13. -/
  | avsTransactionEnd (acked : Bool)
  /-- AVS_SETTLE_END (R272): The AVS settle wait ends and the OP transition proceeds or completes. -/
  | avsSettleEnd
  /-- POWER_DONE_POP (R270): A write of PWR_DONE POP removes the oldest completion. -/
  | powerDonePop
  /-- WAKE (R276): The WAKE pin, a PHY wake input or the wake timer wakes the device from HIBERNATE and boots PD_CTRL. -/
  | wake (src : WakeSource)
  /-- PFAIL (R279): PFAIL_N low for 200 ns starts the power-fail save of log tail, operating hours and wear, and raises event 10. -/
  | pfail
  /-- PFAIL_SAVED (R279): The power-fail save completes, DONE is set and event 11 is raised. -/
  | pfailSaved
  /-- PFAIL_CLEARED (R280): PFAIL_N returns high, event 12 is raised and master NV writes resume after the save. -/
  | pfailCleared
  /-- POWER_ON_RESET (R299): PORST_N is released with rails in range; straps are sampled and PD_AON, PD_NV and PD_CTRL switch on. -/
  | powerOnReset (straps : Straps) (marchFail : List Nat)
  /-- PORST_ASSERT (R329): PORST_N falls and the device enters OFF with outputs in their reset states. -/
  | porstAssert
  /-- SUPPLY_MONITOR_TRIP (R330): A watched rail stays below its threshold for 2 µs and the device acts as though PORST_N were low. -/
  | supplyMonitorTrip (rail : Rail)
  /-- HOST_RESET (R303): HOSTRST_N held low resets both cores and host ports and advances their generations. -/
  | hostReset
  /-- HOST_RESET_RELEASE (R303): HOSTRST_N is released and both cores boot without the March and rebuild the lamp state. -/
  | hostResetRelease
  /-- TESTMODE_ENTRY (R317): TESTMODE high holds both cores in reset and every output high-impedance. -/
  | testmodeEntry
  /-- NV_UNIT_WRITE (R284): A write of NVC_WCMD GO queues one 32-byte unit, or is refused when the queue is full or the range protected. -/
  | nvUnitWrite (m : Master) (unit : Nat)
  /-- NV_UNIT_DONE (R284): The NVC completes writing a 32-byte unit. -/
  | nvUnitDone
  /-- NV_WINDOW_READ (R285): A read of the NV window is served once its page is not busy, correcting or reporting ECC errors. -/
  | nvWindowRead (m : Master) (addr : Nat) (ecc : EccResult)
  /-- NV_LOCK (R286): A write of NVC_CTRL LOCK forbids lowering BP until PD_NV powers up. -/
  | nvLock
  /-- WEAR_SAVE (R291): A write of NVC_WEAR GO starts a wear save from the thermal area. -/
  | wearSave
  /-- NV_WEAR_DONE (R291): A requested wear save writes its header, updates WCOPY and NVC_WSEQ and raises event 838. -/
  | nvWearDone (faults : List CruFault := [])
  /-- ADC_SCHEDULE (R293): A 1 ms ADC schedule boundary delivers averaged AIN readings and sensor temperatures and applies pending selections. -/
  | adcSchedule (r : AdcReadings)
  /-- AIN0_CONVERSION (R293): Every 10 µs an AIN0 conversion is delivered to the Temper engine. -/
  | ain0Conversion (code : BitVec 12)
  /-- CAL_APPLY (R294): A write of CAL_TSCTL APPLY applies SEL and coefficients at the next schedule boundary. -/
  | calApply (i : Fin 16)
  /-- CAL_START (R297): A write of CAL_CMD GO starts calibration of a sensor, the ADC or all sensors. -/
  | calStart (obj : BitVec 8)
  /-- CAL_END (R297): A calibration ends; on a pass the new trims apply and event 840 is raised, on a failure event 841. -/
  | calEnd (r : CalOutcome)
  /-- ADC_TRIM_UPDATE (R295): Once per second firmware recomputes the ADC trim over Tj and writes CAL_ADC. -/
  | adcTrimUpdate
  /-- LOG_APPEND (R292): When 32 records wait or 1 s has passed, firmware appends the retention tail to the event log. -/
  | logAppend
  /-- LIT_HOUR_SAVE (R307): After every 3,600 s of PWR_LITSEC firmware saves the wear and operating-hours records. -/
  | litHourSave
  /-- POUR_RESSTAT_READ (R12): A read of POUR_RESSTAT returns and clears LOST. -/
  | pourResstatRead
  /-- POUR_ERRCNT_READ (R12): A read of POUR_ERRCNT returns and clears DUP and GAP. -/
  | pourErrcntRead
  /-- PIPE_ERRCNT_READ (R12): A read of PIPE_ERRCNT returns and clears OVERRUN and POISON. -/
  | pipeErrcntRead
  /-- TMP_ERRCNT_READ (R12): A read of TMP_ERRCNT returns and clears REFFB and LATE. -/
  | tmpErrcntRead
  /-- LNK_ERR_READ (R12): A read of LNKn_ERR returns and clears BLK, OVF and NAK. -/
  | lnkErrRead (n : Fin 64)
  /-- LNK_ERR2_READ (R12): A read of LNKn_ERR2 returns and clears RBTMO and RBMIS. -/
  | lnkErr2Read (n : Fin 64)
  /-- LNK_PRBS_READ (R12): A read of LNKn_PRBS returns and clears ERRORS. -/
  | lnkPrbsRead (n : Fin 64)
  /-- LNK_ALM1_READ (R12): A read of LNKn_ALM1 returns and clears COUNT. -/
  | lnkAlm1Read (n : Fin 64)
  /-- TIME_TXQ2_READ (R12): A read of TIME_TXQ2 returns and clears OVF. -/
  | timeTxq2Read (p : Port)
  /-- CRU_UE_READ (R12): A read of CRU_UE returns and clears COUNT. -/
  | cruUeRead
  /-- TUN_ECC_READ (R12): A read of TUN_ECC returns and clears CE and UE. -/
  | tunEccRead
  /-- MBX_CNT_READ (R12): A read of MBX_CNT returns and clears DISC. -/
  | mbxCntRead (d : Fin 4)
  /-- PWR_DONE_READ (R12): A read of PWR_DONE returns and clears OVF. -/
  | pwrDoneRead
  /-- NVC_STAT_READ (R12): A read of NVC_STAT returns and clears DROP. -/
  | nvcStatRead
  /-- NVC_WEAR_READ (R12): A read of NVC_WEAR returns and clears ABD. -/
  | nvcWearRead
  /-- NVC_ECC_READ (R12): A read of NVC_ECC returns and clears CE and UE. -/
  | nvcEccRead
  /-- CAL_RUN_TIMEOUT (R257): A CAL_RUN whose calibration has not completed 2 s after it started is answered TIMEOUT. -/
  | calRunTimeout
  /-- SLOT_ERASE_END (R260): The erase of the idle flash slot opened by FW_STAGE BEGIN ends, and the BEGIN reply is sent. -/
  | slotEraseEnd
  /-- ROW_COPY_END (R196): The Fettler finishes copying a failing row's 32 words to a spare row and switches the row remap. -/
  | rowCopyEnd (faults : List CruFault := [])
deriving DecidableEq, Repr

end Sys2Proof
end

