-- ==== Sys2Proof/Config.lean ====
section
/-! DEFINITION. What the manual leaves to the part, to analog circuits or to documents it only names: free
values without a body, so that no proof can see what they are. -/

namespace Sys2Proof

/-- Deviation of a domain's local copy of TIME_NS from the time base (R22); its bound is applied where
it is used. -/
opaque Config.stampSkew : Nat → Nat

/-- The device power estimate of a millisecond, in mW (R119: formed with factory coefficients). -/
opaque Config.powerEstimate : Nat → BitVec 16

/-- Whether blowing fuses succeeds (R260 allows a failure and gives no condition). -/
opaque Config.fuseBlows : Nat → Bool

/-- The figure a self-test or measurement reports when it comes from an analog outcome (Table 11-7). -/
opaque Config.measured : Nat → Word

/-- How long an operation took, in µs, where the manual gives a bound only (R261 W4, PWR_PFSTAT TIME). -/
opaque Config.duration : Nat → Word

/-- The release, level and rollback version of an image whose header the model has not read. -/
opaque Config.imageWord : Nat → Word

end Sys2Proof
end

