-- ==== Sys2Proof/Machine/Flags.lean ====
section
/-! DEFINITION. The arithmetic the manual's rules share: rounding half to even, saturation and signed
fields (R11), wrap-aware time comparison (R175), the three CRCs (R62, R127), F8 fractions (R37) and
the widening of 16-bit codes (R38). -/

namespace Sys2Proof.Machine

open Sys2Proof

/-- `n / d` rounded half to even to an integer (R11). -/
def roundEven (n : Int) (d : Nat) : Int :=
  let q := n / (d : Int)
  let r := n % (d : Int)
  if 2 * r < d then q else if 2 * r > d then q + 1 else if q % 2 = 0 then q else q + 1

/-- Saturation to an unsigned format of `bits` bits. -/
def satU (bits : Nat) (v : Int) : Nat := (min (max v 0) (2 ^ bits - 1)).toNat

/-- Saturation to a two's complement format of `bits` bits. -/
def satS (bits : Nat) (v : Int) : Int := min (max v (-(2 ^ (bits - 1)))) (2 ^ (bits - 1) - 1)

/-- Saturation to U0.20 (R36). -/
def sat20 (v : Int) : Nat := satU 20 v

/-- The low `bits` bits of `n` read as two's complement. -/
def sx (bits n : Nat) : Int :=
  let m := n % 2 ^ bits
  if m < 2 ^ (bits - 1) then (m : Int) else (m : Int) - 2 ^ bits

/-- A signed number as the two's complement field of `bits` bits. -/
def unsx (bits : Nat) (v : Int) : Nat := (v % 2 ^ bits).toNat

/-- Times `t` at or after `now`, wrap-aware (R175). -/
def future (t now : Word) : Bool := decide ((t - now).toNat < 2 ^ 31)

/-- `now` at or after `t`, wrap-aware (R175). -/
def dueAt (t now : Word) : Bool := decide ((now - t).toNat < 2 ^ 31)

/-- An F8 fraction code in units of 1/256 (R37): 255 stands for exactly 1. -/
def f8 (a : Nat) : Nat := if a = 255 then 256 else a

/-- A U0.16 code widened to U0.20 (R38). -/
def widen16 (t : Nat) : Nat := t * 16 + t / 4096

/-- One bit step of the reflected CRC-32C. -/
def crc32cBit (c : Word) : Word := if c.getLsbD 0 then (c >>> 1) ^^^ 0x82F63B78#32 else c >>> 1

/-- One byte step of the CRC-32C. -/
def crc32cByte (c : Word) (b : Byte) : Word :=
  Nat.repeat crc32cBit 8 (c ^^^ b.setWidth 32)

/-- CRC-32C of a byte string (R62). -/
def crc32c (bs : List Byte) : Word := (bs.foldl crc32cByte 0xFFFFFFFF#32) ^^^ 0xFFFFFFFF#32

/-- One bit step of the CRC-8 of control blocks. -/
def crc8Bit (c : BitVec 8) : BitVec 8 := if c.getLsbD 7 then (c <<< 1) ^^^ 0x07#8 else c <<< 1

/-- CRC-8 of a byte string (R127). -/
def crc8 (bs : List Byte) : BitVec 8 := bs.foldl (fun c b => Nat.repeat crc8Bit 8 (c ^^^ b)) 0#8

/-- One bit step of the line CRC-16. -/
def crc16Bit (c : BitVec 16) : BitVec 16 := if c.getLsbD 15 then (c <<< 1) ^^^ 0x1021#16 else c <<< 1

/-- The line CRC-16 of a byte string (R127). -/
def crc16 (bs : List Byte) : BitVec 16 :=
  bs.foldl (fun c b => Nat.repeat crc16Bit 8 (c ^^^ ((b.setWidth 16 : BitVec 16) <<< (8 : Nat)))) 0xFFFF#16

/-- The payload bits as sent: each is its data bit XOR the scrambled bits sent 39 and 58 bits before it (R126). `r` holds the
last 58 of them, the oldest at bit 0; bits 0 to 38 read only `r`, the others bits of the block itself. -/
def scramble (r : BitVec 58) (d : BitVec 64) : BitVec 64 :=
  let lo : BitVec 39 := d.setWidth 39 ^^^ r.extractLsb' 19 39 ^^^ r.setWidth 39
  let sent : BitVec 97 := lo ++ r
  (d.extractLsb' 39 25 ^^^ sent.extractLsb' 58 25 ^^^ sent.extractLsb' 39 25) ++ lo

/-- The data bits of a received payload after the 58 bits `r` (R126). -/
def descramble (r : BitVec 58) (p : BitVec 64) : BitVec 64 :=
  let seen : BitVec 122 := p ++ r
  p ^^^ seen.extractLsb' 19 64 ^^^ seen.extractLsb' 0 64

/-- The last 58 scrambled bits once a payload has followed. -/
def lineHistory (p : BitVec 64) : BitVec 58 := p.extractLsb' 6 58

/-- The degree and the other tap of a PRBS pattern code (R151). -/
def prbsTaps : Nat → Nat × Nat
  | 1 => (7, 6) | 2 => (15, 14) | _ => (31, 28)

/-- The first 64 bits of a PRBS, bit 0 first: the all-ones seed, then each bit by the polynomial (R151; which end of the seeded
register leaves first is open: DESIGN CHOICE, assumption 105). -/
def prbsHead (pattern : Nat) : BitVec 64 :=
  let t := prbsTaps pattern
  (List.range 64).foldl (fun (w : BitVec 64) i =>
    if i < t.1 || (w.getLsbD (i - t.1) ^^ w.getLsbD (i - t.2)) then w ||| (1#64 <<< i) else w) 0#64

/-- The bytes of a word, least significant first (R14, internal memories). -/
def leBytes (w : Word) : List Byte :=
  [w.setWidth 8, (w >>> 8).setWidth 8, (w >>> 16).setWidth 8, (w >>> 24).setWidth 8]

/-- The bytes of a word, most significant first (R14, network structures). -/
def beBytes (w : Word) : List Byte := (leBytes w).reverse

/-- The number a byte string spells, least significant byte first. -/
def leNat : List Byte → Nat
  | [] => 0
  | b :: r => b.toNat + 256 * leNat r

/-- The number a byte string spells, most significant byte first. -/
def beNat (bs : List Byte) : Nat := leNat bs.reverse

/-- Byte `i` of a byte string; 0 past its end. -/
def byteAt (bs : List Byte) (i : Nat) : Byte := bs.getD i 0#8

/-- The big-endian word at byte `i` of a byte string. -/
def beWordAt (bs : List Byte) (i : Nat) : Word := BitVec.ofNat 32 (beNat ((bs.drop i).take 4))

/-- The big-endian 16-bit code at byte `i` of a byte string. -/
def beHalfAt (bs : List Byte) (i : Nat) : Nat := beNat ((bs.drop i).take 2)

/-- Division rounded up. -/
def ceilDiv (a b : Nat) : Nat := (a + b - 1) / b

/-- A number kept at or below a limit: the saturating counters. -/
def satTo (limit v : Nat) : Nat := min v limit

end Sys2Proof.Machine
end

