-- ==== Sys2Proof/Machine/RegMap.lean ====
section
/-! DEFINITION. The register map: the address of every register of the manual (Table 01-8 and the register
tables of each chapter), its reset value and its access masks (Table 00-5), row by row. -/

namespace Sys2Proof.Machine

open Sys2Proof

/-- One row of the register map: address of entry 0, number of entries, stride, reset value, and the bits of each
access code of Table 00-5. -/
structure RegRow where
  base : Nat
  count : Nat
  stride : Nat
  reset : Nat
  rw : Nat
  w1c : Nat
  w1s : Nat
  wo : Nat
  rc : Nat
deriving DecidableEq, Repr

/-! Addresses. -/

/-- SYS_CAP (R2). -/
def aOf.sysCap : Nat := 0x40000004
/-- POUR_CTRL (R83). -/
def aOf.pourCtrl : Nat := 0x40090000
/-- POUR_SIDH (R83). -/
def aOf.pourSidh (i : Nat) : Nat := 0x40090010 + i * 0x8
/-- POUR_SIDL (R83). -/
def aOf.pourSidl (i : Nat) : Nat := 0x40090014 + i * 0x8
/-- POUR_CREDIT (R83). -/
def aOf.pourCredit : Nat := 0x40090020
/-- POUR_RES0 (R83). -/
def aOf.pourRes0 : Nat := 0x40090030
/-- POUR_RES1 (R83). -/
def aOf.pourRes1 : Nat := 0x40090034
/-- POUR_RESSTAT (R83). -/
def aOf.pourResstat : Nat := 0x40090038
/-- POUR_ERRCNT (R83). -/
def aOf.pourErrcnt : Nat := 0x40090040
/-- PIPE_CTRL (R107). -/
def aOf.pipeCtrl : Nat := 0x40080000
/-- PIPE_STAT (R107). -/
def aOf.pipeStat : Nat := 0x40080004
/-- PIPE_FRAME (R107). -/
def aOf.pipeFrame : Nat := 0x40080008
/-- PIPE_DEFCNT (R107). -/
def aOf.pipeDefcnt (i : Nat) : Nat := 0x40080010 + i * 0x4
/-- PIPE_ODTH0 (R107). -/
def aOf.pipeOdth0 : Nat := 0x40080020
/-- PIPE_ODTH1 (R107). -/
def aOf.pipeOdth1 : Nat := 0x40080024
/-- PIPE_ODTHR (R107). -/
def aOf.pipeOdthr : Nat := 0x40080028
/-- PIPE_DITHOFS0 (R107). -/
def aOf.pipeDithofs0 : Nat := 0x40080030
/-- PIPE_DITHOFS1 (R107). -/
def aOf.pipeDithofs1 : Nat := 0x40080034
/-- PIPE_ERRCNT (R107). -/
def aOf.pipeErrcnt : Nat := 0x40080040
/-- PIPE_GLARE (R107). -/
def aOf.pipeGlare : Nat := 0x40080044
/-- PIPE_SCAN (R107). -/
def aOf.pipeScan : Nat := 0x40080048
/-- TMP_CTRL (R124). -/
def aOf.tmpCtrl : Nat := 0x400a0000
/-- TMP_STAT (R124). -/
def aOf.tmpStat : Nat := 0x400a0004
/-- TMP_TJ (R124). -/
def aOf.tmpTj : Nat := 0x400a0008
/-- TMP_RC (R124). -/
def aOf.tmpRc (i : Nat) : Nat := 0x400a0010 + i * 0x4
/-- TMP_DROOP (R124). -/
def aOf.tmpDroop (i : Nat) : Nat := 0x400a0020 + i * 0x4
/-- TMP_DERATE (R124). -/
def aOf.tmpDerate (i : Nat) : Nat := 0x400a0030 + i * 0x4
/-- TMP_VLIM (R124). -/
def aOf.tmpVlim : Nat := 0x400a0040
/-- TMP_VBAT (R124). -/
def aOf.tmpVbat : Nat := 0x400a0044
/-- TMP_PEST (R124). -/
def aOf.tmpPest : Nat := 0x400a0048
/-- TMP_BURST (R124). -/
def aOf.tmpBurst : Nat := 0x400a0050
/-- TMP_FALLBACK (R124). -/
def aOf.tmpFallback : Nat := 0x400a0054
/-- TMP_SHED (R124). -/
def aOf.tmpShed : Nat := 0x400a0058
/-- TMP_WEAR (R124). -/
def aOf.tmpWear : Nat := 0x400a0060
/-- TMP_ERRCNT (R124). -/
def aOf.tmpErrcnt : Nat := 0x400a0070
/-- LNK_CTRL (R156). -/
def aOf.lnkCtrl : Nat := 0x40100000
/-- LNK_RBTOL (R156). -/
def aOf.lnkRbtol : Nat := 0x40100004
/-- LNK_EXPID (R156). -/
def aOf.lnkExpid : Nat := 0x40100008
/-- LNK_CAL (R156). -/
def aOf.lnkCal : Nat := 0x4010000c
/-- LNK_SLICE0 (R156). -/
def aOf.lnkSlice0 (i : Nat) : Nat := 0x40100100 + i * 0x10
/-- LNK_SLICE1 (R156). -/
def aOf.lnkSlice1 (i : Nat) : Nat := 0x40100104 + i * 0x10
/-- LNK_SLICE2 (R156). -/
def aOf.lnkSlice2 (i : Nat) : Nat := 0x40100108 + i * 0x10
/-- LNK_PAIR (R156). -/
def aOf.lnkPair (i : Nat) : Nat := 0x40100500 + i * 0x4
/-- LNKn_CTRL (R156). -/
def aOf.laneCtrl (i : Nat) : Nat := 0x40110000 + i * 0x400
/-- LNKn_STAT (R156). -/
def aOf.laneStat (i : Nat) : Nat := 0x40110004 + i * 0x400
/-- LNKn_ERR (R156). -/
def aOf.laneErr (i : Nat) : Nat := 0x40110008 + i * 0x400
/-- LNKn_ERR2 (R156). -/
def aOf.laneErr2 (i : Nat) : Nat := 0x4011000c + i * 0x400
/-- LNKn_THR (R156). -/
def aOf.laneThr (i : Nat) : Nat := 0x40110010 + i * 0x400
/-- LNKn_PRBS (R156). -/
def aOf.lanePrbs (i : Nat) : Nat := 0x40110014 + i * 0x400
/-- LNKn_EYE (R156). -/
def aOf.laneEye (i : Nat) : Nat := 0x40110018 + i * 0x400
/-- LNKn_ALM0 (R156). -/
def aOf.laneAlm0 (i : Nat) : Nat := 0x40110020 + i * 0x400
/-- LNKn_ALM1 (R156). -/
def aOf.laneAlm1 (i : Nat) : Nat := 0x40110024 + i * 0x400
/-- SEG_CTRL (R169). -/
def aOf.segCtrl : Nat := 0x40180000
/-- SEG_VLCD (R169). -/
def aOf.segVlcd : Nat := 0x40180004
/-- SEG_STAT (R169). -/
def aOf.segStat : Nat := 0x40180008
/-- SEG_FRAME (R169). -/
def aOf.segFrame : Nat := 0x4018000c
/-- SEG_RBTOL (R169). -/
def aOf.segRbtol : Nat := 0x40180010
/-- SEG_GRP (R169). -/
def aOf.segGrp (i : Nat) : Nat := 0x40180020 + i * 0x4
/-- SEG_TF0 (R169). -/
def aOf.segTf0 (i : Nat) : Nat := 0x40180040 + i * 0x8
/-- SEG_TF1 (R169). -/
def aOf.segTf1 (i : Nat) : Nat := 0x40180044 + i * 0x8
/-- SEG_OPEN (R169). -/
def aOf.segOpen (i : Nat) : Nat := 0x40180080 + i * 0x4
/-- SEG_SHORT (R169). -/
def aOf.segShort (i : Nat) : Nat := 0x40180090 + i * 0x4
/-- SEG_PLANE (R169). -/
def aOf.segPlane (i : Nat) : Nat := 0x40180200 + i * 0x4
/-- TIME_NS (R188). -/
def aOf.timeNs : Nat := 0x40040000
/-- TIME_FRAC (R188). -/
def aOf.timeFrac : Nat := 0x40040004
/-- TIME_WRAP (R188). -/
def aOf.timeWrap : Nat := 0x40040008
/-- TIME_SET (R188). -/
def aOf.timeSet : Nat := 0x4004000c
/-- TIME_RATE (R188). -/
def aOf.timeRate : Nat := 0x40040010
/-- TIME_RATEC (R188). -/
def aOf.timeRatec : Nat := 0x40040014
/-- TIME_ADJ (R188). -/
def aOf.timeAdj : Nat := 0x40040018
/-- TIME_ADJREM (R188). -/
def aOf.timeAdjrem : Nat := 0x4004001c
/-- TIME_CTRL (R188). -/
def aOf.timeCtrl : Nat := 0x40040020
/-- TIME_STEPTHR (R188). -/
def aOf.timeStepthr : Nat := 0x40040024
/-- TIME_LAT (R188). -/
def aOf.timeLat (i : Nat) : Nat := 0x40040030 + i * 0x4
/-- TIME_ASYM (R188). -/
def aOf.timeAsym (i : Nat) : Nat := 0x40040038 + i * 0x4
/-- TIME_TXQ0 (R188). -/
def aOf.timeTxq0 (i : Nat) : Nat := 0x40040040 + i * 0x10
/-- TIME_TXQ1 (R188). -/
def aOf.timeTxq1 (i : Nat) : Nat := 0x40040044 + i * 0x10
/-- TIME_TXQ2 (R188). -/
def aOf.timeTxq2 (i : Nat) : Nat := 0x40040048 + i * 0x10
/-- TIME_PERIOD (R188). -/
def aOf.timePeriod : Nat := 0x40040060
/-- TIME_EPOCH (R188). -/
def aOf.timeEpoch : Nat := 0x40040064
/-- TIME_FSTART (R188). -/
def aOf.timeFstart : Nat := 0x40040068
/-- TIME_FCTRL (R188). -/
def aOf.timeFctrl : Nat := 0x4004006c
/-- TIME_LAST (R188). -/
def aOf.timeLast : Nat := 0x40040070
/-- TIME_NEXT (R188). -/
def aOf.timeNext : Nat := 0x40040074
/-- TIME_SYNC (R188). -/
def aOf.timeSync (i : Nat) : Nat := 0x40040080 + i * 0x4
/-- TIME_SYNCCFG (R188). -/
def aOf.timeSynccfg : Nat := 0x40040090
/-- TIME_EW0 (R188). -/
def aOf.timeEw0 (i : Nat) : Nat := 0x400400a0 + i * 0x10
/-- TIME_EW1 (R188). -/
def aOf.timeEw1 (i : Nat) : Nat := 0x400400a4 + i * 0x10
/-- TIME_EW2 (R188). -/
def aOf.timeEw2 (i : Nat) : Nat := 0x400400a8 + i * 0x10
/-- TIME_EW3 (R188). -/
def aOf.timeEw3 (i : Nat) : Nat := 0x400400ac + i * 0x10
/-- CRU_REPIDX (R208). -/
def aOf.cruRepidx : Nat := 0x400b0040
/-- CRU_REPDAT (R208). -/
def aOf.cruRepdat : Nat := 0x400b0044
/-- CRU_UE (R208). -/
def aOf.cruUe : Nat := 0x400b0050
/-- CRU_BANKMAP (R208). -/
def aOf.cruBankmap (i : Nat) : Nat := 0x400b0100 + i * 0x4
/-- CRU_PSTATE (R208). -/
def aOf.cruPstate (i : Nat) : Nat := 0x400b0180 + i * 0x4
/-- FET_CTRL (R208). -/
def aOf.fetCtrl : Nat := 0x400c0000
/-- FET_RET (R208). -/
def aOf.fetRet : Nat := 0x400c0004
/-- FET_SCRUB (R208). -/
def aOf.fetScrub : Nat := 0x400c0008
/-- TUN_RGN (R208). -/
def aOf.tunRgn (i : Nat) : Nat := 0x400d0100 + i * 0x4
/-- TUN_LOCKn (R208). -/
def aOf.tunLock (i : Nat) : Nat := 0x400d0400 + i * 0x4
/-- TUN_LOCKSTAT (R208). -/
def aOf.tunLockstat (i : Nat) : Nat := 0x400d0500 + i * 0x4
/-- TUN_FREE (R208). -/
def aOf.tunFree (i : Nat) : Nat := 0x400d0510 + i * 0x4
/-- TUN_BAD (R208). -/
def aOf.tunBad (i : Nat) : Nat := 0x400d0520 + i * 0x4
/-- TUN_MARCH (R208). -/
def aOf.tunMarch : Nat := 0x400d0530
/-- TUN_ECC (R208). -/
def aOf.tunEcc : Nat := 0x400d0540
/-- TUN_VIOL (R208). -/
def aOf.tunViol : Nat := 0x400d0544
/-- SYS_ROLE (R234). -/
def aOf.sysRole : Nat := 0x40000010
/-- SYS_WDT (R234). -/
def aOf.sysWdt (i : Nat) : Nat := 0x40000020 + i * 0x4
/-- SYS_BOOT (R234). -/
def aOf.sysBoot : Nat := 0x40000038
/-- SEC_ARB (R234). -/
def aOf.secArb : Nat := 0x401c0010
/-- MBX_DATA (R234). -/
def aOf.mbxData (i : Nat) : Nat := 0x40030000 + i * 0x10
/-- MBX_CNT (R234). -/
def aOf.mbxCnt (i : Nat) : Nat := 0x40030004 + i * 0x10
/-- MBX_GEN (R234). -/
def aOf.mbxGen : Nat := 0x40030040
/-- MBX_DBSET (R234). -/
def aOf.mbxDbset (i : Nat) : Nat := 0x40030100 + i * 0x10
/-- MBX_DBCLR (R234). -/
def aOf.mbxDbclr (i : Nat) : Nat := 0x40030104 + i * 0x10
/-- MBX_DBMASK (R234). -/
def aOf.mbxDbmask (i : Nat) : Nat := 0x40030108 + i * 0x10
/-- MBX_DBSTAT (R234). -/
def aOf.mbxDbstat (i : Nat) : Nat := 0x4003010c + i * 0x10
/-- EVT_STAT (R234). -/
def aOf.evtStat (i : Nat) : Nat := 0x40020000 + i * 0x4
/-- EVT_EN (R234). -/
def aOf.evtEn (i : Nat) : Nat := 0x40020080 + i * 0x4
/-- EVT_SUM (R234). -/
def aOf.evtSum : Nat := 0x40020100
/-- EVT_SWSET (R234). -/
def aOf.evtSwset : Nat := 0x40020104
/-- EVT_ROUTE (R234). -/
def aOf.evtRoute (i : Nat) : Nat := 0x40020400 + i * 0x4
/-- EVT_TIME (R234). -/
def aOf.evtTime (i : Nat) : Nat := 0x40021000 + i * 0x4
/-- PWR_STATE (R282). -/
def aOf.pwrState : Nat := 0x40010000
/-- PWR_CTRL (R282). -/
def aOf.pwrCtrl : Nat := 0x40010004
/-- PWR_REQ (R282). -/
def aOf.pwrReq : Nat := 0x40010010
/-- PWR_TICKET (R282). -/
def aOf.pwrTicket : Nat := 0x40010014
/-- PWR_DONE (R282). -/
def aOf.pwrDone : Nat := 0x40010018
/-- PWR_AVS (R282). -/
def aOf.pwrAvs : Nat := 0x40010020
/-- PWR_OPV (R282). -/
def aOf.pwrOpv (i : Nat) : Nat := 0x40010030 + i * 0x4
/-- PWR_WAKE_SRC (R282). -/
def aOf.pwrWakeSrc : Nat := 0x40010040
/-- PWR_WTIMER (R282). -/
def aOf.pwrWtimer : Nat := 0x40010044
/-- PWR_PFSTAT (R282). -/
def aOf.pwrPfstat : Nat := 0x40010050
/-- PWR_PWRSEC (R282). -/
def aOf.pwrPwrsec : Nat := 0x40010060
/-- PWR_LITSEC (R282). -/
def aOf.pwrLitsec : Nat := 0x40010064
/-- PWR_VOTE (R282). -/
def aOf.pwrVote (i : Nat) : Nat := 0x40010100 + i * 0x4
/-- PWR_RET (R282). -/
def aOf.pwrRet (i : Nat) : Nat := 0x40011000 + i * 0x4
/-- NVC_CTRL (R298). -/
def aOf.nvcCtrl : Nat := 0x40190000
/-- NVC_STAT (R298). -/
def aOf.nvcStat : Nat := 0x40190004
/-- NVC_WCMD (R298). -/
def aOf.nvcWcmd : Nat := 0x40190008
/-- NVC_WDATA (R298). -/
def aOf.nvcWdata (i : Nat) : Nat := 0x40190020 + i * 0x4
/-- NVC_WEAR (R298). -/
def aOf.nvcWear : Nat := 0x40190040
/-- NVC_WSEQ (R298). -/
def aOf.nvcWseq : Nat := 0x40190044
/-- NVC_HSEQ (R298). -/
def aOf.nvcHseq : Nat := 0x40190048
/-- NVC_LOGPTR (R298). -/
def aOf.nvcLogptr : Nat := 0x40190050
/-- NVC_ECC (R298). -/
def aOf.nvcEcc : Nat := 0x40190060
/-- CAL_CTRL (R298). -/
def aOf.calCtrl : Nat := 0x401a0000
/-- CAL_CMD (R298). -/
def aOf.calCmd : Nat := 0x401a0004
/-- CAL_RES0 (R298). -/
def aOf.calRes0 : Nat := 0x401a0008
/-- CAL_RES1 (R298). -/
def aOf.calRes1 : Nat := 0x401a000c
/-- CAL_TS (R298). -/
def aOf.calTs (i : Nat) : Nat := 0x401a0100 + i * 0x4
/-- CAL_TSCTL (R298). -/
def aOf.calTsctl (i : Nat) : Nat := 0x401a0140 + i * 0x4
/-- CAL_TSC0 (R298). -/
def aOf.calTsc0 (i : Nat) : Nat := 0x401a1000 + i * 0x10
/-- CAL_TSC1 (R298). -/
def aOf.calTsc1 (i : Nat) : Nat := 0x401a1004 + i * 0x10
/-- CAL_TSC2 (R298). -/
def aOf.calTsc2 (i : Nat) : Nat := 0x401a1008 + i * 0x10
/-- CAL_AIN (R298). -/
def aOf.calAin (i : Nat) : Nat := 0x401a0300 + i * 0x4
/-- CAL_ADC (R298). -/
def aOf.calAdc (i : Nat) : Nat := 0x401a0400 + i * 0x4
/-- TMP NTC table (R124). -/
def aOf.tmpNtc (i : Nat) : Nat := 0x400a1000 + i * 0x4
/-- TMP Arrhenius weights (R124). -/
def aOf.tmpArrw (i : Nat) : Nat := 0x400a1200 + i * 0x4
/-- TMP VBAT profile (R124). -/
def aOf.tmpVprof (i : Nat) : Nat := 0x400a1800 + i * 0x4
/-- TMP ageing gains of region 0 (R124). -/
def aOf.tmpAgeg0 (i : Nat) : Nat := 0x400a1400 + i * 0x4
/-- TMP ageing gains of region 1 (R124). -/
def aOf.tmpAgeg1 (i : Nat) : Nat := 0x400a1500 + i * 0x4
/-- TMP ageing gains of region 2 (R124). -/
def aOf.tmpAgeg2 (i : Nat) : Nat := 0x400a1600 + i * 0x4
/-- TMP ageing gains of region 3 (R124). -/
def aOf.tmpAgeg3 (i : Nat) : Nat := 0x400a1700 + i * 0x4

/-- Rows 0 to 39 of the register map. -/
def regRows0 : List RegRow := [
  ⟨0x40000004, 1, 0x4, 0x0, 0x0, 0x0, 0x0, 0x0, 0x0⟩,
  ⟨0x40090000, 1, 0x4, 0x50000, 0xff0003, 0x0, 0x100, 0x0, 0x0⟩,
  ⟨0x40090010, 2, 0x8, 0x0, 0xffffffff, 0x0, 0x0, 0x0, 0x0⟩,
  ⟨0x40090014, 2, 0x8, 0x0, 0xffffffff, 0x0, 0x0, 0x0, 0x0⟩,
  ⟨0x40090020, 1, 0x4, 0x10002000, 0x0, 0x0, 0x0, 0x0, 0x0⟩,
  ⟨0x40090030, 1, 0x4, 0x0, 0x0, 0x0, 0x0, 0x0, 0x0⟩,
  ⟨0x40090034, 1, 0x4, 0x0, 0x0, 0x0, 0x0, 0x0, 0x0⟩,
  ⟨0x40090038, 1, 0x4, 0x0, 0x0, 0x0, 0x0, 0x80000000, 0xfff0000⟩,
  ⟨0x40090040, 1, 0x4, 0x0, 0x0, 0x0, 0x0, 0x0, 0xffffffff⟩,
  ⟨0x40080000, 1, 0x4, 0x0, 0x7d, 0x0, 0x0, 0x0, 0x0⟩,
  ⟨0x40080004, 1, 0x4, 0x0, 0x0, 0x0, 0x0, 0x0, 0x0⟩,
  ⟨0x40080008, 1, 0x4, 0x0, 0x0, 0x0, 0x0, 0x0, 0x0⟩,
  ⟨0x40080010, 2, 0x4, 0x0, 0x7fff, 0x0, 0x0, 0x0, 0x0⟩,
  ⟨0x40080020, 1, 0x4, 0x281400ec, 0xffffffff, 0x0, 0x0, 0x0, 0x0⟩,
  ⟨0x40080024, 1, 0x4, 0x64503c, 0x7ffffff, 0x0, 0x0, 0x0, 0x0⟩,
  ⟨0x40080028, 1, 0x4, 0x10, 0xfff, 0x0, 0x0, 0x0, 0x0⟩,
  ⟨0x40080030, 1, 0x4, 0x20200000, 0x3f3f3f3f, 0x0, 0x0, 0x0, 0x0⟩,
  ⟨0x40080034, 1, 0x4, 0x20000020, 0x3f3f3f3f, 0x0, 0x0, 0x0, 0x0⟩,
  ⟨0x40080040, 1, 0x4, 0x0, 0x0, 0x0, 0x0, 0x0, 0xffffffff⟩,
  ⟨0x40080044, 1, 0x4, 0x0, 0x0, 0x0, 0x0, 0x0, 0x0⟩,
  ⟨0x40080048, 1, 0x4, 0x0, 0x0, 0x0, 0x0, 0x0, 0x0⟩,
  ⟨0x400a0000, 1, 0x4, 0x0, 0xf, 0x0, 0x0, 0x0, 0x0⟩,
  ⟨0x400a0004, 1, 0x4, 0x0, 0x0, 0x0, 0x0, 0x0, 0x0⟩,
  ⟨0x400a0008, 1, 0x4, 0x0, 0x0, 0x0, 0x0, 0x0, 0x0⟩,
  ⟨0x400a0010, 4, 0x4, 0x183c3250, 0xffffffff, 0x0, 0x0, 0x0, 0x0⟩,
  ⟨0x400a0020, 4, 0x4, 0x190c5400, 0xfffffff7, 0x0, 0x0, 0x0, 0x0⟩,
  ⟨0x400a0030, 4, 0x4, 0x55052800, 0xffffffff, 0x0, 0x0, 0x0, 0x0⟩,
  ⟨0x400a0040, 1, 0x4, 0x40031, 0xffffff, 0x0, 0x0, 0x0, 0x0⟩,
  ⟨0x400a0044, 1, 0x4, 0xffff0000, 0x0, 0x0, 0x0, 0x0, 0x0⟩,
  ⟨0x400a0048, 1, 0x4, 0x0, 0x0, 0x0, 0x0, 0x0, 0x0⟩,
  ⟨0x400a0050, 1, 0x4, 0xfa00000, 0xffff0000, 0x0, 0x0, 0x0, 0x0⟩,
  ⟨0x400a0054, 1, 0x4, 0x10f44, 0x1fffff, 0x0, 0x0, 0x0, 0x0⟩,
  ⟨0x400a0058, 1, 0x4, 0x186a0, 0x1fffff, 0x0, 0x0, 0x0, 0x0⟩,
  ⟨0x400a0060, 1, 0x4, 0x16, 0x1f, 0x0, 0x0, 0x0, 0x0⟩,
  ⟨0x400a0070, 1, 0x4, 0x0, 0x0, 0x0, 0x0, 0x0, 0xffffffff⟩,
  ⟨0x40100000, 1, 0x4, 0x0, 0xf3, 0x0, 0x0, 0x0, 0x0⟩,
  ⟨0x40100004, 1, 0x4, 0x200008, 0xfff00ff, 0x0, 0x0, 0x0, 0x0⟩,
  ⟨0x40100008, 1, 0x4, 0x0, 0xffffffff, 0x0, 0x0, 0x0, 0x0⟩,
  ⟨0x4010000c, 1, 0x4, 0x0, 0x7f7fff, 0x80000000, 0x0, 0x0, 0x0⟩,
  ⟨0x40100100, 64, 0x10, 0x0, 0xffffffff, 0x0, 0x0, 0x0, 0x0⟩]

/-- Rows 40 to 79 of the register map. -/
def regRows1 : List RegRow := [
  ⟨0x40100104, 64, 0x10, 0x0, 0x1fff07ff, 0x0, 0x0, 0x0, 0x0⟩,
  ⟨0x40100108, 64, 0x10, 0x0, 0x80000000, 0x0, 0x0, 0x0, 0x0⟩,
  ⟨0x40100500, 32, 0x4, 0x0, 0x1, 0x0, 0x0, 0x0, 0x0⟩,
  ⟨0x40110000, 64, 0x400, 0x80, 0x7ff, 0x0, 0x0, 0x0, 0x0⟩,
  ⟨0x40110004, 64, 0x400, 0x0, 0x0, 0x0, 0x0, 0x0, 0x0⟩,
  ⟨0x40110008, 64, 0x400, 0x0, 0x0, 0x0, 0x0, 0x0, 0xffffffff⟩,
  ⟨0x4011000c, 64, 0x400, 0x0, 0x0, 0x0, 0x0, 0x0, 0xff00ffff⟩,
  ⟨0x40110010, 64, 0x400, 0x64001040, 0xffffffff, 0x0, 0x0, 0x0, 0x0⟩,
  ⟨0x40110014, 64, 0x400, 0x0, 0x0, 0x0, 0x0, 0xc0000000, 0xffffff⟩,
  ⟨0x40110018, 64, 0x400, 0x0, 0x0, 0x0, 0x0, 0x80000000, 0x0⟩,
  ⟨0x40110020, 64, 0x400, 0x0, 0x0, 0x0, 0x0, 0x0, 0x0⟩,
  ⟨0x40110024, 64, 0x400, 0x0, 0x0, 0x0, 0x0, 0x0, 0xffff0000⟩,
  ⟨0x40180000, 1, 0x4, 0x8000, 0x3ffff, 0x0, 0x0, 0x0, 0x0⟩,
  ⟨0x40180004, 1, 0x4, 0x64, 0xff, 0x0, 0x0, 0x0, 0x0⟩,
  ⟨0x40180008, 1, 0x4, 0x2, 0x0, 0x0, 0x0, 0x0, 0x0⟩,
  ⟨0x4018000c, 1, 0x4, 0x0, 0x0, 0x0, 0x0, 0x0, 0x0⟩,
  ⟨0x40180010, 1, 0x4, 0x40210, 0xfffff, 0x0, 0x0, 0x0, 0x0⟩,
  ⟨0x40180020, 6, 0x4, 0x0, 0xffffffff, 0x0, 0x0, 0x0, 0x0⟩,
  ⟨0x40180040, 4, 0x8, 0x76543210, 0xffffffff, 0x0, 0x0, 0x0, 0x0⟩,
  ⟨0x40180044, 4, 0x8, 0xfedcba98, 0xffffffff, 0x0, 0x0, 0x0, 0x0⟩,
  ⟨0x40180080, 4, 0x4, 0x0, 0x0, 0x0, 0x0, 0x0, 0x0⟩,
  ⟨0x40180090, 4, 0x4, 0x0, 0x0, 0x0, 0x0, 0x0, 0x0⟩,
  ⟨0x40180200, 192, 0x4, 0x0, 0x0, 0x0, 0x0, 0x0, 0x0⟩,
  ⟨0x40040000, 1, 0x4, 0x0, 0x0, 0x0, 0x0, 0x0, 0x0⟩,
  ⟨0x40040004, 1, 0x4, 0x0, 0x0, 0x0, 0x0, 0x0, 0x0⟩,
  ⟨0x40040008, 1, 0x4, 0x0, 0x0, 0x0, 0x0, 0x0, 0x0⟩,
  ⟨0x4004000c, 1, 0x4, 0x0, 0x0, 0x0, 0x0, 0xffffffff, 0x0⟩,
  ⟨0x40040010, 1, 0x4, 0x0, 0xffffffff, 0x0, 0x0, 0x0, 0x0⟩,
  ⟨0x40040014, 1, 0x4, 0x0, 0x1ff, 0x0, 0x0, 0x0, 0x0⟩,
  ⟨0x40040018, 1, 0x4, 0x0, 0x0, 0x0, 0x0, 0xffffffff, 0x0⟩,
  ⟨0x4004001c, 1, 0x4, 0x0, 0x0, 0x0, 0x0, 0x0, 0x0⟩,
  ⟨0x40040020, 1, 0x4, 0x1f4, 0x3ff, 0x0, 0x0, 0x0, 0x0⟩,
  ⟨0x40040024, 1, 0x4, 0x3e8, 0xffffff, 0x0, 0x0, 0x0, 0x0⟩,
  ⟨0x40040030, 2, 0x4, 0x0, 0xffffffff, 0x0, 0x0, 0x0, 0x0⟩,
  ⟨0x40040038, 2, 0x4, 0x0, 0xffffffff, 0x0, 0x0, 0x0, 0x0⟩,
  ⟨0x40040040, 2, 0x10, 0x0, 0x0, 0x0, 0x0, 0x0, 0x0⟩,
  ⟨0x40040044, 2, 0x10, 0x0, 0x0, 0x0, 0x0, 0x0, 0x0⟩,
  ⟨0x40040048, 2, 0x10, 0x0, 0x0, 0x0, 0x0, 0x80000000, 0xfff0000⟩,
  ⟨0x40040060, 1, 0x4, 0xa98ac, 0x1ffffff, 0x0, 0x0, 0x0, 0x0⟩,
  ⟨0x40040064, 1, 0x4, 0x0, 0xffffffff, 0x0, 0x0, 0x0, 0x0⟩]

/-- Rows 80 to 119 of the register map. -/
def regRows2 : List RegRow := [
  ⟨0x40040068, 1, 0x4, 0x0, 0xffffffff, 0x0, 0x0, 0x0, 0x0⟩,
  ⟨0x4004006c, 1, 0x4, 0x0, 0x1, 0xc0000000, 0x0, 0x0, 0x0⟩,
  ⟨0x40040070, 1, 0x4, 0x0, 0x0, 0x0, 0x0, 0x0, 0x0⟩,
  ⟨0x40040074, 1, 0x4, 0x0, 0x0, 0x0, 0x0, 0x0, 0x0⟩,
  ⟨0x40040080, 4, 0x4, 0x0, 0x0, 0x0, 0x0, 0x0, 0x0⟩,
  ⟨0x40040090, 1, 0x4, 0x0, 0xff, 0x0, 0x0, 0x0, 0x0⟩,
  ⟨0x400400a0, 8, 0x10, 0x0, 0xf0ffffff, 0x0, 0x0, 0x0, 0x0⟩,
  ⟨0x400400a4, 8, 0x10, 0x0, 0xffffffff, 0x0, 0x0, 0x0, 0x0⟩,
  ⟨0x400400a8, 8, 0x10, 0x0, 0xffffffff, 0x0, 0x0, 0x0, 0x0⟩,
  ⟨0x400400ac, 8, 0x10, 0x0, 0x0, 0x40000000, 0x0, 0x0, 0x0⟩,
  ⟨0x400b0040, 1, 0x4, 0x0, 0xfff, 0x0, 0x0, 0x0, 0x0⟩,
  ⟨0x400b0044, 1, 0x4, 0x0, 0x83ff, 0x0, 0x0, 0x0, 0x0⟩,
  ⟨0x400b0050, 1, 0x4, 0x0, 0x0, 0x0, 0x0, 0x0, 0xf8000000⟩,
  ⟨0x400b0100, 32, 0x4, 0x3020100, 0xffffffff, 0x0, 0x0, 0x0, 0x0⟩,
  ⟨0x400b0180, 9, 0x4, 0x0, 0xffffffff, 0x0, 0x0, 0x0, 0x0⟩,
  ⟨0x400c0000, 1, 0x4, 0x42080a07, 0xffffff07, 0x0, 0x0, 0x0, 0x0⟩,
  ⟨0x400c0004, 1, 0x4, 0x0, 0x7f0000, 0x0, 0x0, 0x80000000, 0x0⟩,
  ⟨0x400c0008, 1, 0x4, 0x0, 0x0, 0x0, 0x0, 0x0, 0x0⟩,
  ⟨0x400d0100, 96, 0x4, 0x0, 0xe07f007f, 0x0, 0x0, 0x0, 0x0⟩,
  ⟨0x400d0400, 64, 0x4, 0x0, 0x7, 0x0, 0x0, 0x0, 0x0⟩,
  ⟨0x400d0500, 2, 0x4, 0x0, 0x0, 0x0, 0x0, 0x0, 0x0⟩,
  ⟨0x400d0510, 4, 0x4, 0x0, 0xffffffff, 0x0, 0x0, 0x0, 0x0⟩,
  ⟨0x400d0520, 4, 0x4, 0x0, 0x0, 0x0, 0x0, 0x0, 0x0⟩,
  ⟨0x400d0530, 1, 0x4, 0x0, 0x207f007f, 0x0, 0x0, 0x80000000, 0x0⟩,
  ⟨0x400d0540, 1, 0x4, 0x0, 0x0, 0x0, 0x0, 0x0, 0xfff00000⟩,
  ⟨0x400d0544, 1, 0x4, 0x0, 0x0, 0x80000000, 0x0, 0x0, 0x0⟩,
  ⟨0x40000010, 1, 0x4, 0x0, 0x10, 0x0, 0x0, 0x100, 0x0⟩,
  ⟨0x40000020, 2, 0x4, 0x64, 0x80ffff, 0x400000, 0x0, 0xff000000, 0x0⟩,
  ⟨0x40000038, 1, 0x4, 0x0, 0x0, 0x0, 0x0, 0x0, 0x0⟩,
  ⟨0x401c0010, 1, 0x4, 0x0, 0x0, 0x0, 0x0, 0x3f, 0x0⟩,
  ⟨0x40030000, 4, 0x10, 0x0, 0xffffffff, 0x0, 0x0, 0x0, 0x0⟩,
  ⟨0x40030004, 4, 0x10, 0x1000, 0x0, 0x0, 0x0, 0x0, 0xff000000⟩,
  ⟨0x40030040, 1, 0x4, 0x0, 0xf, 0x0, 0x0, 0x0, 0x0⟩,
  ⟨0x40030100, 4, 0x10, 0x0, 0x0, 0x0, 0xfffffffe, 0x0, 0x0⟩,
  ⟨0x40030104, 4, 0x10, 0x0, 0x0, 0xfffffffe, 0x0, 0x0, 0x0⟩,
  ⟨0x40030108, 4, 0x10, 0x0, 0xffffffff, 0x0, 0x0, 0x0, 0x0⟩,
  ⟨0x4003010c, 4, 0x10, 0x0, 0x0, 0x0, 0x0, 0x0, 0x0⟩,
  ⟨0x40020000, 32, 0x4, 0x0, 0x0, 0xffffffff, 0x0, 0x0, 0x0⟩,
  ⟨0x40020080, 32, 0x4, 0x0, 0xffffffff, 0x0, 0x0, 0x0, 0x0⟩,
  ⟨0x40020100, 1, 0x4, 0x0, 0x0, 0x0, 0x0, 0x0, 0x0⟩]

/-- Rows 120 to 159 of the register map. -/
def regRows3 : List RegRow := [
  ⟨0x40020104, 1, 0x4, 0x0, 0x0, 0x0, 0x0, 0x800003ff, 0x0⟩,
  ⟨0x40020400, 256, 0x4, 0x42424242, 0xffffffff, 0x0, 0x0, 0x0, 0x0⟩,
  ⟨0x40021000, 1024, 0x4, 0x0, 0x0, 0x0, 0x0, 0x0, 0x0⟩,
  ⟨0x40010000, 1, 0x4, 0xa2, 0x0, 0x0, 0x0, 0x0, 0x0⟩,
  ⟨0x40010004, 1, 0x4, 0x8, 0x7ff007f, 0x0, 0x0, 0x0, 0x0⟩,
  ⟨0x40010010, 1, 0x4, 0x0, 0x0, 0x0, 0x0, 0xff800000, 0x0⟩,
  ⟨0x40010014, 1, 0x4, 0x0, 0x0, 0x0, 0x0, 0x0, 0x0⟩,
  ⟨0x40010018, 1, 0x4, 0x0, 0x0, 0x0, 0x0, 0x40000000, 0x20000000⟩,
  ⟨0x40010020, 1, 0x4, 0xa40, 0xff7f, 0x0, 0x0, 0x0, 0x0⟩,
  ⟨0x40010030, 4, 0x4, 0x0, 0xffff, 0x0, 0x0, 0x0, 0x0⟩,
  ⟨0x40010040, 1, 0x4, 0x1, 0x0, 0x1f, 0x0, 0x0, 0x0⟩,
  ⟨0x40010044, 1, 0x4, 0x0, 0xffffff, 0x0, 0x0, 0x0, 0x0⟩,
  ⟨0x40010050, 1, 0x4, 0x0, 0x7f00, 0x2, 0x0, 0x0, 0x0⟩,
  ⟨0x40010060, 1, 0x4, 0x0, 0xffffffff, 0x0, 0x0, 0x0, 0x0⟩,
  ⟨0x40010064, 1, 0x4, 0x0, 0xffffffff, 0x0, 0x0, 0x0, 0x0⟩,
  ⟨0x40010100, 12, 0x4, 0x0, 0x0, 0x8000000, 0x0, 0xffff00, 0x0⟩,
  ⟨0x40011000, 1024, 0x4, 0x0, 0xfffffffd, 0x0, 0x0, 0x0, 0x0⟩,
  ⟨0x40190000, 1, 0x4, 0x0, 0x3, 0x0, 0x80000000, 0x0, 0x0⟩,
  ⟨0x40190004, 1, 0x4, 0x14, 0x0, 0x0, 0x0, 0x0, 0xff000000⟩,
  ⟨0x40190008, 1, 0x4, 0x0, 0xfffe0, 0x0, 0x0, 0x80000000, 0x0⟩,
  ⟨0x40190020, 8, 0x4, 0x0, 0xffffffff, 0x0, 0x0, 0x0, 0x0⟩,
  ⟨0x40190040, 1, 0x4, 0x0, 0x3, 0x0, 0x0, 0x80000000, 0x20000000⟩,
  ⟨0x40190044, 1, 0x4, 0x0, 0xffffffff, 0x0, 0x0, 0x0, 0x0⟩,
  ⟨0x40190048, 1, 0x4, 0x0, 0xffffffff, 0x0, 0x0, 0x0, 0x0⟩,
  ⟨0x40190050, 1, 0x4, 0x0, 0xfff, 0x0, 0x0, 0x0, 0x0⟩,
  ⟨0x40190060, 1, 0x4, 0x0, 0x0, 0x0, 0x0, 0x0, 0xfff00000⟩,
  ⟨0x401a0000, 1, 0x4, 0x0, 0x6, 0x0, 0x0, 0x0, 0x0⟩,
  ⟨0x401a0004, 1, 0x4, 0x0, 0xff, 0x0, 0x0, 0x80000000, 0x0⟩,
  ⟨0x401a0008, 1, 0x4, 0x0, 0x0, 0x0, 0x0, 0x0, 0x0⟩,
  ⟨0x401a000c, 1, 0x4, 0x0, 0x0, 0x0, 0x0, 0x0, 0x0⟩,
  ⟨0x401a0100, 16, 0x4, 0x80000000, 0x0, 0x0, 0x0, 0x0, 0x0⟩,
  ⟨0x401a0140, 16, 0x4, 0x0, 0xf3, 0x0, 0x0, 0x80000000, 0x0⟩,
  ⟨0x401a1000, 64, 0x10, 0x0, 0xffffffff, 0x0, 0x0, 0x0, 0x0⟩,
  ⟨0x401a1004, 64, 0x10, 0x0, 0xffffffff, 0x0, 0x0, 0x0, 0x0⟩,
  ⟨0x401a1008, 64, 0x10, 0x0, 0xffffffff, 0x0, 0x0, 0x0, 0x0⟩,
  ⟨0x401a0300, 8, 0x4, 0x80000000, 0x0, 0x0, 0x0, 0x0, 0x0⟩,
  ⟨0x401a0400, 2, 0x4, 0x200, 0xffff, 0x0, 0x0, 0x0, 0x0⟩,
  ⟨0x400a1000, 65, 0x4, 0x0, 0xffff, 0x0, 0x0, 0x0, 0x0⟩,
  ⟨0x400a1200, 64, 0x4, 0x1000, 0xffff, 0x0, 0x0, 0x0, 0x0⟩,
  ⟨0x400a1800, 16, 0x4, 0xffff, 0xffff, 0x0, 0x0, 0x0, 0x0⟩]

/-- Rows 160 to 163 of the register map. -/
def regRows4 : List RegRow := [
  ⟨0x400a1400, 33, 0x4, 0x400, 0xfff, 0x0, 0x0, 0x0, 0x0⟩,
  ⟨0x400a1500, 33, 0x4, 0x400, 0xfff, 0x0, 0x0, 0x0, 0x0⟩,
  ⟨0x400a1600, 33, 0x4, 0x400, 0xfff, 0x0, 0x0, 0x0, 0x0⟩,
  ⟨0x400a1700, 33, 0x4, 0x400, 0xfff, 0x0, 0x0, 0x0, 0x0⟩]

/-- The whole register map. -/
def regRows : List RegRow := regRows0 ++ regRows1 ++ regRows2 ++ regRows3 ++ regRows4

/-- Whether an address is an entry of a row. -/
def RegRow.holds (r : RegRow) (a : Nat) : Bool :=
  r.base ≤ a && a < r.base + r.count * r.stride && (a - r.base) % r.stride == 0

/-- The row of the map an address lies in; `none` for a word where no register is described (R13, R30). -/
def regRow (a : Nat) : Option RegRow := regRows.find? (·.holds a)

end Sys2Proof.Machine
end

