-- ==== Sys2Proof/Machine/State.lean ====
section
/-! DEFINITION. The state of the device as plain data: fuses and straps, the register file, the time
base, the pour engine, the live beam state, the pipeline, the Temper engine, the link, the segment
port, the memories, the mailboxes, the processors, the firmware, the power controller, the NV
controller, the sensors and the host ports; the reasons a step can stop; and the state after reset.
A register the manual names has its home in `regs`, unless its docstring here says otherwise. -/

namespace Sys2Proof.Machine

open Sys2Proof

/-- The variants of Table 00-1 (R1). -/
inductive Part | uh6440 | uh6432 | uh6416
deriving DecidableEq, Repr

/-- The lifecycle states of R215. -/
inductive Lifecycle | development | production | returned
deriving DecidableEq, Repr

/-- What fuses and straps fix: the variant (R2), the lifecycle state (R215), the blown anti-rollback
fuses (R214), the unique ID (R241) and the straps sampled at power-good (R299). -/
structure Fuses where
  part : Part
  lifecycle : Lifecycle
  arb : Nat
  uniqueId : BitVec 64
  straps : Straps
deriving DecidableEq, Repr

/-- The levels of the control pins that hold the device (R299, R303, R279, R317). -/
structure Pins where
  porstLow : Bool
  hostrstLow : Bool
  pfailLow : Bool
  testmode : Bool
deriving DecidableEq, Repr

/-- One queued transmit stamp (R179): ns, fraction in 1/256 ns, tag. -/
structure TxStamp where
  ns : Word
  frac : BitVec 8
  tag : BitVec 16
deriving DecidableEq, Repr

/-- The SYNC-pin lock of one exposure window (R185): stamps of the last selected edges, newest first,
the accepted edge e and the interval I while LOCKED. -/
structure EwLock where
  edges : List Word
  e : Word
deriving DecidableEq, Repr

/-- The time base (R170 to R173, R181, R182). TIME_NS, TIME_FRAC, TIME_WRAP and the 16 bits of residue
are `ns`, `frac`, `wrap` and `res`; `latFrac` and `latWrap` are what a read of TIME_NS latched;
`adjRem` is the offset still to slew in units of 2^-48 ns; `running` is set while edges run, with the
number and te of the next frame. -/
structure TimeBase where
  ns : Word
  frac : Word
  res : BitVec 16
  wrap : Word
  latFrac : Word
  latWrap : Word
  adjRem : Int
  capped : Bool
  running : Bool
  nextK : Word
  nextTe : Word
  lastK : Word
  pendPeriod : Option Nat
  pendTemper : Bool
  txq0 : List TxStamp
  txq1 : List TxStamp
  ews : Tab EwLock
  ewRegs : Tab Word
deriving DecidableEq, Repr

/-- How far a pour has come (R66 to R69, R78): waiting for its commit point, an armed mask pour, a
committed store pour being copied, a table pour being written, a written SWITCH pour waiting for its
edge; and a pour a flush has removed whose record waits its turn (R83). -/
inductive PourPhase | waiting | armed | copying | writing | written | flushed
deriving DecidableEq, Repr

/-- One pour in flight (R58 to R76). `port` is the receiving port; `payload` the bytes accepted so
far; `nextIdx` the fragment index expected next; `complete` that the LAST fragment was accepted and
its CRC matched; `slots` the shadow slots reserved, `tiles` the tiles touched, `slotOf` the slot of
each tile that has one, `merges` the partial tiles whose merge is pending, `undo` the set bytes a written
SWITCH pour replaced and `undoFok` the pairs that were to lose FOK before it, `frame` the frame number at its commit
point. -/
structure Pour where
  key : PourKey
  op : PourOp
  port : Port
  hdr : PourHdr
  launch : Option Word
  payload : List Byte
  nextIdx : Nat
  complete : Bool
  seenDue : Bool
  late : Bool
  phase : PourPhase
  slots : Nat
  tiles : List Nat
  slotOf : List (Nat × Nat)
  merges : List Nat
  undo : List (Nat × List Byte)
  undoFok : Option (List Nat)
  frame : Option Word
deriving DecidableEq, Repr

/-- One result record (POUR_RES0, POUR_RES1). -/
structure PourResult where
  id : BitVec 16
  status : Nat
  inj : Bool
  port : Port
  late : Bool
  frame : Word
deriving DecidableEq, Repr

/-- A sequence number taken within a stream, for the duplicate test of R63. -/
structure SeqTaken where
  stream : Port
  seq : Word
  id : BitVec 16
deriving DecidableEq, Repr

/-- The pour engine (R55 to R83): fragments handed over by the classifiers with their MAC stamps, in merge order (R24),
pours in flight in stream order, results, the last committed POUR_IDs, EXP of each stream (`none` until the first fragment
after an enable), sequence numbers taken, the flush, and the free slots of the pool: slots from
`fresh` on were never used, `recycled` returned to the pool. `syncBusy` is set while a set
sync runs; `written` lists the byte ranges written into the inactive set
since the last switch and `syncing` those under copy; `fokClear` lists the pairs whose FOK falls when the
inactive set becomes active (R68); `lostPending` that PD_PIPE went off holding pours or results. -/
structure PourEngine where
  ingress : List (Word × PourFrag)
  flight : List Pour
  results : List PourResult
  committed : List (BitVec 16)
  exp0 : Option Word
  exp1 : Option Word
  taken : List SeqTaken
  flushing : Bool
  refusing0 : Bool
  refusing1 : Bool
  lastAvtp : List (Port × BitVec 8)
  fresh : Nat
  recycled : List Nat
  syncing : List (Nat × Nat)
  written : List (Nat × Nat)
  syncBusy : Bool
  fokClear : List Nat
  lostPending : Bool
deriving DecidableEq, Repr

/-- A record of the live mask table (Table 02-8) with its remaining frame count; `ended` once an edge has found that count
at 0, so that it gates no more and MASK_EXPIRY takes it out (R53). -/
structure Mask where
  verts : List (Int × Int)
  depth : Nat
  soft : Nat
  ttl : Nat
  remaining : Nat
  valid : Bool
  offsetEn : Bool
  ended : Bool
deriving DecidableEq, Repr

/-- The live beam state outside the Crucible (Table 02-9): the active table set, the applied offsets,
the mask table and the segment plane. -/
structure Beam where
  setB : Bool
  pitch : Int
  yaw : Int
  masks : Tab Mask
  plane : Tab (BitVec 4)
deriving DecidableEq, Repr

/-- The tag of the frame in S1 (Table 01-3): its number, te, period, table set, band and the frame
controls, which are the register file as the frame-start edge found it (R20); whether its edge began or
ended LC overdrive (R97). -/
structure FrameTag where
  number : Word
  te : Word
  period : Nat
  setB : Bool
  band : Nat
  regs : Tab Word
  lcStart : Bool
  lcEnd : Bool
deriving DecidableEq, Repr

/-- The pixel pipeline's own state: the frame tag, whether a frame is in S1, the next row to scan, the
temperature band, poison counting (R28, R29), the once-per-frame events, the power summed per tile for
the frame (R93), the powers in force for the frame before, the rows sent, whether the frame's light has launched (R25), and
whether the panel source delivered a reading in the frame (R100). -/
structure Pipeline where
  tag : FrameTag
  active : Bool
  nextRow : Nat
  band : Nat
  poisoned : Bool
  poisonRun : Nat
  glare : Option (Nat × Nat)
  orderSeen : Bool
  power : Tab Nat
  prevPower : Tab Nat
  launched : Bool
  bandSeen : Bool
  clocks : Nat
deriving DecidableEq, Repr

/-- What the Temper engine publishes for a tile: F, Ftr, Gw (R108) and its tf. -/
structure TileFactors where
  f : Nat
  ftr : Nat
  gw : Nat
  tf : Int
deriving DecidableEq, Repr

/-- A computed, not yet published update of a tile (R112): the unlimited factor droop × der in units of
2^-60, Ftr, Gw and tf. -/
structure TileUpdate where
  fac : Nat
  ftr : Nat
  gw : Nat
  tf : Int
deriving DecidableEq, Repr

/-- A hardware step of R120 or R121 that waits for its edge; `loaded` once its period stands in TIME_PERIOD
because edges do not run (R182). -/
structure TemperStep where
  shed : Bool
  op : Nat
  ticket : Nat
  loaded : Bool
deriving DecidableEq, Repr

/-- A frame whose Temper updates had not all ended at its edge (R112): its tag, the tile powers of its updates, the unlimited
factors its tiles have so far in units of 2^-60 (1 where none is listed), and the tile rows still to update, in order. -/
structure LateFrame where
  tag : FrameTag
  power : Tab Nat
  facs : Tab Nat
  rows : List Nat
deriving DecidableEq, Repr

/-- The Temper engine (R108 to R122): values published and computed, tile rows updated in this frame with their unlimited
factors, frames with late updates (oldest first), the Tb of each tile's last
update, tiles whose nodes have been set, whether EN has stood since the last edge, references substituted before
and in this frame, derating, Sglob in force and computed, the lowest AIN0 code of the window, whether Tj was
below 125 °C at the last tick, a waiting step. -/
structure Temper where
  published : Tab (Option TileFactors)
  computed : Tab (Option TileUpdate)
  rowsDone : List Nat
  facs : Tab Nat
  late : List LateFrame
  lastTb : Tab (Option Int)
  modelled : List Nat
  enSeen : Bool
  refSubs : List Nat
  refNow : List Nat
  derated : Bool
  deratedPrev : Bool
  sglob : Nat
  nextSglob : Nat
  sglobDone : Bool
  vbatLow : Option Nat
  belowShed : Bool
  step : Option TemperStep
deriving DecidableEq, Repr

/-- A management block waiting for credit (R134): a CFG, or an RBQ with its query tag. -/
inductive Mgmt
  | cfg (addr : Nat) (data : Word)
  | rbq (row col count tag : Nat)
deriving DecidableEq, Repr

/-- A lane's state outside its registers (R144, R152, R154): the preset under trial with the FOM heard in it
and the best so far, the driver's SYN bits, whether DONE is being sent, the preset in use, the wait after
a failed training and that failure, the error window with its count and whether it raised its event, an error injection
waiting; the last 58 scrambled payload bits received and sent, the oldest at bit 0 (R126; 0 before
the first block: DESIGN CHOICE, assumption 102); which of the last 64 headers were
invalid, the newest at bit 0, and how many valid ones came in a row, up to 64 (R127); the backlog of R138 and the lines of the
frame that its next SOF cuts (R131); and whether it left IDLE at the last edge (R144). -/
structure Lane where
  trial : Option Nat
  heard : Option Nat
  best : Option (Nat × Nat)
  drvLock : Bool
  drvDone : Bool
  doneSent : Bool
  preset : Nat
  holdoff : Bool
  failedTrain : Bool
  winId : Nat
  winCount : Nat
  winHit : Bool
  inject : Option Bool
  rxHist : BitVec 58
  txHist : BitVec 58
  hdrs : BitVec 64
  run : Nat
  backlog : Nat
  cuts : Nat
  resting : Bool
deriving DecidableEq, Repr

/-- A lane that has not trained. -/
def Lane.reset : Lane :=
  { trial := none, heard := none, best := none, drvLock := false, drvDone := false, doneSent := false, preset := 0
    holdoff := false, failedTrain := false, winId := 0, winCount := 0, winHit := false, inject := none
    rxHist := 0#58, txHist := 0#58, hdrs := 0#64, run := 0, backlog := 0, cuts := 0, resting := false }

/-- A lane that has not trained, after `l`: its error window, its scramblers and its header counts go on. -/
def Lane.fresh (l : Lane) : Lane :=
  { Lane.reset with winId := l.winId, winCount := l.winCount, winHit := l.winHit
                    rxHist := l.rxHist, txHist := l.txHist, hdrs := l.hdrs, run := l.run }

/-- A read-back query not yet fully answered (R150): its tag, row, first column, expected values (`none` where
not compared), samples answered, and the frame it was made in. -/
structure RbQuery where
  tag : Nat
  row : Nat
  expect : List (Option Nat)
  answered : List Nat
  frame : Word
deriving DecidableEq, Repr

/-- A slice's state outside its registers: its driver's management counts (R134), image chunks received
(R145, R146), identity figures, the read-back position, the frame last queried, the queries, whether a self-test sweeps
the rows (R261) and the frame that last raised the event (R150), NAKed rows with their frame and arrival stamp (R22), a restore of pair carriage waiting for its edge (R143), the lane
a DEGRADED pair moves to (R142), the driver temperature with its time (R149), and whether it is held ABSENT after a failure. -/
structure Slice where
  sent : Nat
  credit : Nat
  wtag : Nat
  mqd : Nat
  queue : List Mgmt
  chunks : Tab Word
  got : Tab Bool
  loading : Bool
  retried : Bool
  imageLen : Nat
  rbRow : Nat
  rbCol : Nat
  rbTag : Nat
  rbAt : Option Word
  queries : List RbQuery
  sweep : Bool
  rbEvent : Option Word
  nakRows : List (Nat × Nat × Word)
  restore : Bool
  survivor : Option Nat
  temp : Option (Int × Nat)
  blocked : Bool
deriving DecidableEq, Repr

/-- A slice with no driver identified. -/
def Slice.reset : Slice :=
  { sent := 0, credit := 0, wtag := 0, mqd := 1, queue := [], chunks := [], got := [], loading := false
    retried := false, imageLen := 0, rbRow := 0, rbCol := 0, rbTag := 0, rbAt := none, queries := [], sweep := false
    rbEvent := none, nakRows := [], restore := false, survivor := none, temp := none, blocked := false }

/-- The link outside its registers. -/
structure Link where
  lanes : Tab Lane
  slices : Tab Slice
deriving DecidableEq, Repr

/-- Consecutive read-back findings of one output (R165). -/
structure OutHist where
  open_ : Nat
  short : Nat
  okOpen : Nat
  okShort : Nat
deriving DecidableEq, Repr

/-- The segment port outside its registers (R157 to R166): frame counter F, the slot in progress, the
settings latched at the frame start, whether EN was cleared, a blank by VLCD fault or by FSTOP, the
supervision's last failure, read-back history, the Ingot image waiting. -/
structure Segment where
  frame : Nat
  slot : Nat
  latched : Tab Word
  restart : Bool
  failed : Bool
  fstop : Bool
  hist : Tab OutHist
  image : Option (List (BitVec 4))
  levels : List Nat
deriving DecidableEq, Repr

/-- What a physical bank that no logical bank names holds where no write to it stands (R189, R206): nothing yet, what unwritten
bytes of the logical bank it served read as, the background its March left, or open values from a failed March. -/
inductive BankFill
  | blank | served (l : Nat) | marched | failed (n : Nat)
deriving DecidableEq, Repr

/-- The contents of such a bank, by byte of the bank, and its uncorrectable words. -/
structure BankStore where
  fill : BankFill
  cells : Tab Byte
  poison : List Nat
deriving DecidableEq, Repr

/-- A bank that has held nothing yet. -/
def BankStore.blank : BankStore := { fill := .blank, cells := [], poison := [] }

/-- A retirement in progress (R197 to R199). -/
structure Retire where
  bank : Nat
  spare : Nat
  old : Nat
  march : Bool
deriving DecidableEq, Repr

/-- The Crucible and the Fettler outside their registers: the bytes and the poisoned words of the window, which are those of the
physical banks that CRU_BANKMAP names; the other physical banks (R189); repair entries (R196), with what the row or column behind
each that is not in use holds; the scrub pass, the copies under way and waiting, and the tiles whose stress counter has
saturated (R115). -/
structure Crucible where
  cells : Tab Byte
  poison : List Nat
  parked : Tab BankStore
  repairs : Tab Word
  hidden : Tab (Tab Byte)
  corrected : List (Nat × Nat)
  scrubAt : Nat
  fillRun : Option (Nat × Nat × Nat)
  rowRun : Option (Nat × Nat × Nat)
  fillQ : List (Nat × Nat)
  rowQ : List (Nat × Nat)
  retire : Option Retire
  retireQ : List Nat
  wearSat : List Nat
deriving DecidableEq, Repr

/-- A March run in progress (R206, R207): block under test, last block, preserving or not. -/
structure March where
  block : Nat
  last : Nat
  preserving : Bool
deriving DecidableEq, Repr

/-- The borrow buffer of a preserving March run (R207): the block redirected to it, the words valid in it, and whether the block
stays redirected for good. -/
structure Borrow where
  block : Nat
  words : Tab (Option Word)
  kept : Bool
deriving DecidableEq, Repr

/-- The Tundish outside its registers: bytes, lock owners as owner + 1 (R204), the March run and the borrow buffer (R207). -/
structure Tundish where
  cells : Tab Byte
  locks : Tab Nat
  march : Option March
  borrow : Option Borrow
deriving DecidableEq, Repr

/-- One mailbox FIFO (R220): all words held, the stamp of each word's post (R22, R24), and how many are visible. -/
structure Fifo where
  words : List Word
  stamps : List Word
  visible : Nat
deriving DecidableEq, Repr

/-- An image as its header names it (Table 10-1), and whether recovery took it into the TCMs without a slot (R213). -/
structure Image where
  slot : Nat
  loose : Bool
  arbver : Nat
  release : Word
  level : Word
deriving DecidableEq, Repr

/-- A control processor: held in reset, in the Boot ROM, or running an image. -/
inductive CoreState | reset | rom | recovery | running (i : Image)
deriving DecidableEq, Repr

/-- A read through the debug window that the device goes on with (R231): its address, when it was sent, and its result once it is
there, none for a bus error. -/
structure DbgRead where
  addr : Nat
  since : Nat
  result : Option (Option Word)
deriving DecidableEq, Repr

/-- The processors and the security block: core states, their TCMs (core c's I-TCM from byte c × 0x20000, its D-TCM 0x10000
further, R209), the debug window's posted write and reads, the
handover, the staged slots that passed, the instants from which the watchdogs count, and the external flash the
Boot ROM reads. -/
structure Cpu where
  core0 : CoreState
  core1 : CoreState
  handover : Option Nat
  takeover : Bool
  stagedOk : List Nat
  bootSlot : Nat
  kick0 : Nat
  kick1 : Nat
  dbgBase : Word
  dbgWrite : Option (Nat × Word)
  dbgRead : List DbgRead
  pwerr : Bool
  tcm : Tab Byte
  flash : Tab Byte
deriving DecidableEq, Repr

/-- The lamp states of S0 (Table 11-3). -/
inductive Lamp | off | dark | lit | ingot | service
deriving DecidableEq, Repr

/-- When a reply can leave (R26, R238): once the pour it injected commits and that frame launches, once
a mask line is gated, once the lamp cut shows, once a power ticket completes, and so on. -/
inductive ReplyWait
  | pour (id : BitVec 16)
  | launch (frame : Word)
  | maskLine (id : BitVec 16)
  | nextLine
  | lampEntry (target : Lamp)
  | fadeStep
  | nextEdge
  | ticket (t : Nat)
  | calEnd
  | nvSave (bits : Nat)
  | erase
  | handover
  | test (t : Nat)
  | reqEdge (kind target : Nat)
deriving DecidableEq, Repr

/-- A request in progress (R240), what its reply waits for, and its arrival stamp (R22). -/
structure Request where
  opcode : BitVec 8
  q : Msg
  wait : ReplyWait
  frameWord : Option Word
  stamp : Word
deriving DecidableEq, Repr

/-- A fade in progress (R247). -/
structure Fade where
  up : Bool
  target : Lamp
  t0 : Nat
  a0 : Nat
deriving DecidableEq, Repr

/-- An open transfer (R249, R260). -/
structure Xfer where
  route : Route
  len : Nat
  crc : Word
  bytes : List Byte
  erasing : Bool
deriving DecidableEq, Repr

/-- The gPTP servo (R177 to R180, R255, R256): state 0 free run, 1 acquiring, 2 locked, 3 holdover; `ending` that an
offset has been measured since and only its slew keeps the servo from being locked. -/
structure Servo where
  state : Nat
  port : Port
  gm : BitVec 64
  best : Option (BitVec 64 × BitVec 64 × Port)
  ending : Bool
  syncStamp : Option (BitVec 16 × Int)
  offset : Int
  offsets : List Int
  e0 : Nat
  lastSyncNs : Nat
  reroute : Int
  delay0 : Nat
  delay1 : Nat
  pdelay : List (Port × BitVec 16 × Int)
  stamps : List (Port × TxStamp)
  hdrift : Nat
  hage : Nat
  baseNs : Int
  aligned : Bool
  counted : Nat
deriving DecidableEq, Repr

/-- A pour firmware injects (R244, R300): its number, opcode, TARGET, header words 2 and 3, SWITCH, payload in network
order. -/
structure Load where
  id : Nat
  op : PourOp
  target : Nat
  w2 : Word
  w3 : Word
  switch : Bool
  bytes : List Byte
deriving DecidableEq, Repr

/-- The configuration record: the items of Table 11-6, the frame grid of TIME_CONFIG item 5 (R302), registers firmware
writes when their domain switches on, and the tables it loads (R300). -/
structure Items where
  streamTmo : Nat
  routes : Nat
  dstMac : BitVec 48
  hbPeriod : Nat
  framePeriod : Nat
  burstPeriod : Nat
  litOp : Nat
  pourSid : BitVec 64
  pourPorts : Nat
  ctrlSid : BitVec 64
  grid : Option (Int × Nat)
  regs : List (Nat × Word)
  tables : List Load
deriving DecidableEq, Repr

/-- A self-test in progress (R261): its number and argument, whether it takes the light, the time of its start, and what it has
counted so far. -/
structure SelfTest where
  id : Nat
  arg : Word
  offline : Bool
  start : Nat
  count : Nat
deriving DecidableEq, Repr

/-- Farrien firmware 3.x as the manual describes it (R8): lamp manager, message service and records. `leaving` is
the target of a departure from OFF; `entering` the stage of an entry into OFF (0 none, 1 the cut to DARK is
queued, 2 its frame runs, 3 the flush runs), `restart` that of a pipeline restart (R29: 0 none, 1 the flush runs, 2 PD_PIPE
goes off), `burstDue` that the Burst period is still to write; `cuts` the cuts queued as pours and `entered` the target of one that
has committed; `ingotStale` that the Ingot pattern waits to be loaded; `outbox` replies waiting for room in HMB
out; `inbox` messages that came before firmware started, in merge order with their stamps, `arrival` the stamp of the message
in hand (R24) and `hmbIn` the words read of a message not whole yet; `hibernate` that HIBERNATE is requested once its reply is posted (R275); `loads` pours
waiting to be injected, `tablesDue` that tables of the configuration record have not all committed since the Crucible lost them,
and `darkSlices` the slices it disabled with the lamp OFF. -/
structure Firmware where
  started : Bool
  lamp : Lamp
  leaving : Option Lamp
  entering : Nat
  restart : Nat
  burstDue : Bool
  fade : Option Fade
  cuts : List (Lamp × BitVec 16)
  entered : Option Lamp
  ingotStale : Bool
  items : Items
  requests : List Request
  outbox : List (BitVec 4 × List Word)
  repliesLost : Nat
  discarded : Nat
  inbox : List (Word × RawMsg)
  arrival : Word
  hmbIn : List Word
  ctlFrames : List (List Byte × BitVec 40)
  ingotXfer : Option Xfer
  fwXfer : Option Xfer
  xferClosed : List (XferKind × Route)
  statusSeq : Nat
  statusDropped : Nat
  lastPourNs : Nat
  silenceFrom : Nat
  injectId : Nat
  test : Option SelfTest
  servo : Servo
  logSeq : Nat
  bootCount : Nat
  tseg : Nat
  logLost : Nat
  litSaved : Nat
  loads : List Load
  tablesDue : Bool
  darkSlices : List Nat
  hibernate : Bool
deriving DecidableEq, Repr

/-- What a running transition of the sequencer waits for (Tables 12-4 and 12-5). -/
inductive TransStage | domains | avs | settle | pll | edge | drain
deriving DecidableEq, Repr

/-- A request of the sequencer (R270): its ticket, kind 1 device state or 2 operating point. -/
structure PwrReq where
  ticket : Nat
  kind : Nat
  target : Nat
  client : Nat
deriving DecidableEq, Repr

/-- A running transition: the request, its OP goal, direction and stage, and the domains it waits for. -/
structure Trans where
  req : PwrReq
  goal : Nat
  raising : Bool
  stage : TransStage
  domains : List Nat
deriving DecidableEq, Repr

/-- One completion (PWR_DONE). -/
structure PwrDone where
  ticket : Nat
  status : Nat
  result : Nat
deriving DecidableEq, Repr

/-- A VOUT_COMMAND that belongs to no transition (R272, R273): the voltage PD_PIPE switches on at (`up`), until it has settled, or the
code of an operating point sent again. -/
structure AvsJob where
  op : Nat
  up : Bool
  settling : Bool
  before : Nat
deriving DecidableEq, Repr

/-- The power controller outside its registers (R264 to R280). Domain states and votes have their home
in PWR_VOTE(d); `stepTrans` is the lowering sequence of a Temper step, `volt` the operating point whose
voltage was commanded last; `drains` the domains in DRAINING, those that entered it together under one number (R268); `subsec` counts the time towards the next second of PWR_PWRSEC. -/
structure Power where
  dma : Option DmaDesc
  trans : Option Trans
  stepTrans : Option Trans
  volt : Nat
  avsJob : Option AvsJob
  drains : List (Nat × Nat)
  pendingReq : Option PwrReq
  done : List PwrDone
  tickets : Nat
  retMem : Tab Byte
  saving : Bool
  hibernating : Bool
  subsec : Nat
  wakePending : List WakeSource
deriving DecidableEq, Repr

/-- The NV controller outside its registers: the array, its groups known uncorrectable and those with a single wrong bit that was
not written back (R287), the write queue, the wear engine and the units it has written (R284, R291). -/
structure Nv where
  cells : Tab Byte
  bad : List Nat
  weak : List Nat
  queue : List (Nat × List Byte)
  wear : Bool
  wearAt : Nat
deriving DecidableEq, Repr

/-- The sensors and the ADC outside their registers (R293 to R297): selections waiting for a schedule
boundary, the calibration in progress with the sensors still to do, and when each AIN input last converted (R109), as its
extended time in ns plus 1, 0 for never. -/
structure Sensors where
  applied : Tab Word
  pendApply : List Nat
  everApplied : List Nat
  calRun : Option (List Nat)
  ntcSeen : Tab Nat
deriving DecidableEq, Repr

/-- The host ports (R16 to R18, R303): classifier drop counters, gPTP frames received with their MAC stamps in 1/256 ns
(R178), link state and
whether the port is held in reset. -/
structure HostPort where
  drops : Nat
  inReset : Bool
  up : Bool
  gptp : List (List Byte × BitVec 40)
deriving DecidableEq, Repr

/-- A value the block sends out or answers to the command in progress. -/
inductive Out
  | data (v : Word)
  | busError
  | domainOff
  | spi (status : Nat) (data : Word)
  | reply (r : Route) (eth : Option EthHead) (hdr : Word) (ws : List Word)
  | statusMsg (r : Route) (eth : Option EthHead) (hdr : Word) (ws : List Word)
  | notify (core : Nat)
  | block (lane : Nat) (control : Bool) (payload : BitVec 64)
  | prbs (lane : Nat) (pattern : Nat) (head : BitVec 64)
  | idle (lane : Nat)
  | frame (p : Port)
  | pdelayResp (p : Port) (seqId : BitVec 16) (t2 : Int)
  | pdelayRespFollowUp (p : Port) (seqId : BitVec 16) (t3 : Int)
  | avs (addr code : Nat)
  | levels (vs : List Nat)
  | crc (v : Word)
  | stage (n : Nat)
deriving DecidableEq, Repr

/-- The whole state of the block. `pending` is the queue of waiting commands, first in first out; `out`
holds what the last command sent out; `free` counts the free values drawn (the model's own field). -/
structure State where
  pending : List Instr
  out : List Out
  free : Nat
  fuses : Fuses
  pins : Pins
  regs : Tab Word
  time : TimeBase
  pour : PourEngine
  beam : Beam
  pipe : Pipeline
  temper : Temper
  link : Link
  seg : Segment
  cru : Crucible
  tun : Tundish
  mbx : Tab Fifo
  cpu : Cpu
  fw : Firmware
  pwr : Power
  nv : Nv
  cal : Sensors
  port0 : HostPort
  port1 : HostPort
deriving DecidableEq, Repr

/-- Why a step stops with a fault. No command of this block does: every error the manual describes is an
answer (a bus error, a status byte, a reply) and a next state. -/
inductive Fault
deriving DecidableEq, Repr

/-- Why a step is refused. -/
inductive Refusal
  /-- Raised by an arm of `exec` whose command has no meaning yet (safe). -/
  | notModelled (mnemonic : String)
deriving DecidableEq, Repr

/-! ### Reset

`State.reset` is the device in STANDBY after power-up: registers at the manual's reset values (nothing
listed in `regs`), memories with nothing listed, every queue empty. -/

/-- Straps left open (R316). -/
def Straps.open_ : Straps := ⟨0#2, false⟩

/-- The time base after power-up of PD_CTRL: TIME_NS 0, edges off (R276). -/
def TimeBase.reset : TimeBase :=
  { ns := 0#32, frac := 0#32, res := 0#16, wrap := 0#32, latFrac := 0#32, latWrap := 0#32, adjRem := 0
    capped := false, running := false, nextK := 0#32, nextTe := 0#32, lastK := 0#32, pendPeriod := none
    pendTemper := false, txq0 := [], txq1 := [], ews := [], ewRegs := [] }

/-- The pour engine after power-up: nothing in flight, every one of `slots` shadow slots free (R71). The
pool starts at slot number `first`, past the slots the tile map names first. -/
def PourEngine.reset (first : Nat) : PourEngine :=
  { ingress := [], flight := [], results := [], committed := [], exp0 := none, exp1 := none, taken := []
    flushing := false, refusing0 := false, refusing1 := false, lastAvtp := [], fresh := first, recycled := []
    syncing := [], written := [], syncBusy := false, fokClear := [], lostPending := false }

/-- The live beam state before the first pour (assumption 4). -/
def Beam.reset : Beam := { setB := false, pitch := 0, yaw := 0, masks := [], plane := [] }

/-- No frame yet. -/
def FrameTag.reset : FrameTag := { number := 0#32, te := 0#32, period := 0, setB := false, band := 0, regs := [], lcStart := false, lcEnd := false }

/-- The pipeline after PD_PIPE powers up. -/
def Pipeline.reset : Pipeline :=
  { tag := FrameTag.reset, active := false, nextRow := 0, band := 0, poisoned := false, poisonRun := 0
    glare := none, orderSeen := false, power := [], prevPower := [], launched := false, bandSeen := false, clocks := 0 }

/-- The Temper engine after PD_PIPE powers up: Sglob 1, the full code. -/
def Temper.reset : Temper :=
  { published := [], computed := [], rowsDone := [], facs := [], late := []
    lastTb := [], modelled := [], enSeen := false, refSubs := [], refNow := [], derated := false
    deratedPrev := false, sglob := 0xFFFF, nextSglob := 0xFFFF, sglobDone := false, vbatLow := none
    belowShed := false, step := none }

/-- The link after PD_PIPE powers up. -/
def Link.reset : Link := { lanes := [], slices := [] }

/-- The segment port after PD_SEG powers up: F 0, blank. -/
def Segment.reset : Segment :=
  { frame := 0, slot := 0, latched := [], restart := true, failed := false, fstop := false, hist := []
    image := none, levels := [] }

/-- The Crucible and the Fettler after PD_CRU powers up (assumption 5). -/
def Crucible.reset : Crucible :=
  { cells := [], poison := [], parked := [], repairs := [], hidden := [], corrected := [], scrubAt := 0
    fillRun := none, rowRun := none, fillQ := [], rowQ := [], retire := none, retireQ := [], wearSat := [] }

/-- The Tundish after PD_CTRL powers up (assumption 5). -/
def Tundish.reset : Tundish := { cells := [], locks := [], march := none, borrow := none }

/-- Both cores about to leave reset (R209); the external flash erased (assumption 5). -/
def Cpu.reset : Cpu :=
  { core0 := .rom, core1 := .rom, handover := none, takeover := false, stagedOk := [], bootSlot := 0, kick0 := 0, kick1 := 0
    dbgBase := 0#32, dbgWrite := none, dbgRead := [], pwerr := false, tcm := [], flash := [] }

/-- The servo in free run. -/
def Servo.reset : Servo :=
  { state := 0, port := .p0, gm := 0#64, best := none, ending := false, syncStamp := none, offset := 0, offsets := [], e0 := 0
    lastSyncNs := 0, reroute := 0, delay0 := 0, delay1 := 0, pdelay := [], stamps := [], hdrift := 100, hage := 10, baseNs := 0
    aligned := false, counted := 0 }

/-- The configuration items at the defaults of Table 11-6. -/
def Items.reset : Items :=
  { streamTmo := 150, routes := 0, dstMac := 0#48, hbPeriod := 10, framePeriod := 694444
    burstPeriod := 520833, litOp := 2, pourSid := 0#64, pourPorts := 0, ctrlSid := 0#64, grid := none
    regs := [], tables := [] }

/-- Firmware before FIRMWARE_START. -/
def Firmware.reset : Firmware :=
  { started := false, lamp := .off, leaving := none, entering := 0, restart := 0, burstDue := false, fade := none, cuts := [], entered := none
    ingotStale := false, items := Items.reset, requests := [], outbox := [], repliesLost := 0, discarded := 0
    inbox := [], arrival := 0#32, hmbIn := [], ctlFrames := [], ingotXfer := none, fwXfer := none, xferClosed := [], statusSeq := 0
    statusDropped := 0, lastPourNs := 0, silenceFrom := 0, injectId := 0, test := none, servo := Servo.reset
    logSeq := 0, bootCount := 0, tseg := 0, logLost := 0, litSaved := 0
    loads := [], tablesDue := false, darkSlices := [], hibernate := false }

/-- The power controller in STANDBY with no request made. -/
def Power.reset : Power :=
  { dma := none, trans := none, stepTrans := none, volt := 2, avsJob := none, drains := [], pendingReq := none, done := [], tickets := 0, retMem := []
    saving := false, hibernating := false, subsec := 0, wakePending := [] }

/-- The NV controller with nothing queued (assumption 5). -/
def Nv.reset : Nv := { cells := [], bad := [], weak := [], queue := [], wear := false, wearAt := 0 }

/-- The sensors before any selection was applied. -/
def Sensors.reset : Sensors :=
  { applied := [], pendApply := [], everApplied := [], calRun := none, ntcSeen := [] }

/-- A host port with its link down. -/
def HostPort.reset : HostPort := { drops := 0, inReset := false, up := false, gptp := [] }

/-- The device after power-up with all straps open: a UH6440 in DEVELOPMENT (assumption 2), in STANDBY
(R265), PWR_STATE at its reset value. -/
def State.reset : State :=
  { pending := [], out := [], free := 0
    fuses := { part := .uh6440, lifecycle := .development, arb := 0, uniqueId := 0#64, straps := Straps.open_ }
    pins := { porstLow := false, hostrstLow := false, pfailLow := false, testmode := false }
    regs := [], time := TimeBase.reset, pour := PourEngine.reset 65536, beam := Beam.reset
    pipe := Pipeline.reset, temper := Temper.reset, link := Link.reset, seg := Segment.reset
    cru := Crucible.reset, tun := Tundish.reset, mbx := [], cpu := Cpu.reset, fw := Firmware.reset
    pwr := Power.reset, nv := Nv.reset, cal := Sensors.reset, port0 := HostPort.reset, port1 := HostPort.reset }

end Sys2Proof.Machine
end

