-- ==== Sys2Proof/Machine/Ops.lean ====
section
/-! DEFINITION. The named operations the meanings share: register access, variant figures, power domains,
memory bytes and words, stamps, events and doorbells (R232, R227), counters, and the outcome. -/

namespace Sys2Proof.Machine

open Sys2Proof

/-- What a meaning answers. -/
abbrev Res := Host.Outcome State Fault Refusal

/-- The state with the previous command's outputs cleared, where every meaning begins. -/
def State.begin (s : State) : State := { s with out := [] }

/-- A meaning that answers the next state. -/
def done (s : State) : Res := .next s

/-- The state with one more output. -/
def State.emit (s : State) (o : Out) : State := { s with out := s.out ++ [o] }

/-- `f` where a condition holds, the state unchanged where it does not (assumption 1). -/
def State.when (s : State) (c : Bool) (f : State → State) : State := if c then f s else s

/-! ### The variant (Table 00-1) -/

/-- The variant of a state. -/
def State.part (s : State) : Part := s.fuses.part

/-- Driver lane count (Table 00-1). -/
def Part.lanes : Part → Nat
  | .uh6440 => 64 | .uh6432 => 32 | .uh6416 => 16

/-- Array grid columns (Table 00-1). -/
def Part.gridW : Part → Nat
  | .uh6440 => 4096 | .uh6432 => 2048 | .uh6416 => 1024

/-- Array grid rows (Table 00-1). -/
def Part.gridH : Part → Nat
  | .uh6440 => 1024 | .uh6432 => 1024 | .uh6416 => 512

/-- The segment port is present on the UH6440 and UH6416 (R4). -/
def Part.hasSeg : Part → Bool
  | .uh6440 => true | .uh6432 => false | .uh6416 => true

/-- Host port 1 is absent on the UH6416 (R4). -/
def Part.hasPort1 : Part → Bool
  | .uh6440 => true | .uh6432 => true | .uh6416 => false

/-- Whether a host port is present. -/
def Part.hasPort (p : Part) : Port → Bool
  | .p0 => true
  | .p1 => p.hasPort1

/-- SYS_CAP by variant (Table 00-3, R2). -/
def Part.sysCap : Part → Word
  | .uh6440 => 0x10000B40#32 | .uh6432 => 0x08000520#32 | .uh6416 => 0x02000210#32

/-- Logical bank count NB (R189). -/
def Part.banks : Part → Nat
  | .uh6440 => 128 | .uh6432 => 64 | .uh6416 => 32

/-- Usable Crucible bytes (Table 00-1). -/
def Part.cruSize : Part → Nat
  | .uh6440 => 0x2000000 | .uh6432 => 0x1000000 | .uh6416 => 0x800000

/-- Tile columns TC (R190). -/
def Part.tileCols : Part → Nat
  | .uh6440 => 512 | .uh6432 => 256 | .uh6416 => 128

/-- Slot count S (R190). -/
def Part.slots : Part → Nat
  | .uh6440 => 65536 | .uh6432 => 32768 | .uh6416 => 8192

/-- Canvas region base (Table 09-1). -/
def Part.canvasBase : Part → Nat
  | .uh6440 => 0x400000 | .uh6432 => 0x180000 | .uh6416 => 0x200000

/-- Previous-frame store base (Table 09-1). -/
def Part.prevBase : Part → Nat
  | .uh6440 => 0xD00000 | .uh6432 => 0x680000 | .uh6416 => 0x400000

/-- Flat-field gain base (Table 09-1). -/
def Part.flatBase : Part → Nat
  | .uh6440 => 0x1300000 | .uh6432 => 0x980000 | .uh6416 => 0x4C0000

/-- Tile-state base (Table 09-1). -/
def Part.tileBase : Part → Nat
  | .uh6440 => 0x1800000 | .uh6432 => 0xC00000 | .uh6416 => 0x560000

/-- Glyph store base (Table 09-1). -/
def Part.glyphBase : Part → Nat
  | .uh6440 => 0x1C00000 | .uh6432 => 0xE00000 | .uh6416 => 0x5F0000

/-- Defect list base (Table 09-1). -/
def Part.defectBase : Part → Nat
  | .uh6440 => 0x1D00000 | .uh6432 => 0xF00000 | .uh6416 => 0x6F0000

/-- Table set base (Table 09-1); set B lies 0x6_0000 above set A. -/
def Part.setBase (p : Part) (b : Bool) : Nat :=
  (match p with | .uh6440 => 0x1D40000 | .uh6432 => 0xF40000 | .uh6416 => 0x730000) + (if b then 0x60000 else 0)

/-- Pattern area size (Table 09-1). -/
def Part.patternSize : Part → Nat
  | .uh6440 => 0x400000 | .uh6432 => 0x180000 | .uh6416 => 0x200000

/-- Glyph store size (Table 09-1). -/
def glyphSize : Nat := 0x100000

/-- The packed slot of a tile index (R190). -/
def Part.packed (p : Part) (t : Nat) : Nat := t / 512 * p.tileCols + t % 512

/-- The tile index of a pixel (R6). -/
def tileOf (x y : Nat) : Nat := y / 8 * 512 + x / 8

/-! ### Registers -/

/-- What a register reads as before anything has written it since its domain powered up: the reset value
of the manual's register table, with the entries that differ by index or variant. -/
def resetValue (p : Part) (a : Nat) : Word :=
  match regRow a with
  | none => 0#32
  | some r =>
    if r.base = aOf.cruBankmap 0 then BitVec.ofNat 32 (0x03020100 + (a - r.base) / 4 * 0x04040404)
    else if r.base = aOf.cruPstate 0 then
      BitVec.ofNat 32 ((List.range 16).foldl (fun acc j =>
        let b := (a - r.base) / 4 * 16 + j
        acc + (if b < p.banks then 1 else if b < 128 then 3 else if b < 136 then 0 else 0) * 4 ^ j) 0)
    else if r.base = aOf.pwrOpv 0 then
      match (a - r.base) / 4 with
      | 0 => 0x0171#32 | 1 => 0x018F#32 | 2 => 0x019A#32 | _ => 0x01C3#32
    else if r.base = aOf.tunRgn 0 then
      if a = aOf.tunRgn 0 || a = aOf.tunRgn 16 then 0xE07F0000#32 else 0#32
    else if r.base = aOf.pwrVote 0 then
      match (a - r.base) / 4 with
      | 0 | 11 => 0x02000000#32
      | 1 | 2 => 0x02000008#32
      | 3 => if p.hasPort1 then 0x02000008#32 else 0#32
      | _ => 0#32
    else BitVec.ofNat 32 r.reset

/-- The stored word of a register. -/
def State.rd (s : State) (a : Nat) : Word := tget (resetValue s.part) s.regs a

/-- Store a register word. -/
def State.wr (s : State) (a : Nat) (v : Word) : State := { s with regs := tset (resetValue s.part) s.regs a v }

/-- A field of a stored register word. -/
def State.f (s : State) (a lo len : Nat) : Nat := fld (s.rd a) lo len

/-- Store one field of a register word. -/
def State.setF (s : State) (a lo len v : Nat) : State := s.wr a (setFld (s.rd a) lo len v)

/-- One bit of a stored register word. -/
def State.bit (s : State) (a i : Nat) : Bool := s.f a i 1 == 1

/-- Store one bit of a register word. -/
def State.setBit (s : State) (a i : Nat) (b : Bool) : State := s.setF a i 1 (b2n b)

/-- Advance a counter field, saturating at its width (access RC of Table 00-5). -/
def State.bump (s : State) (a lo len n : Nat) : State :=
  s.setF a lo len (satTo (2 ^ len - 1) (s.f a lo len + n))

/-- A register word as the frame in S1 sees it: the copy taken at its frame-start edge (R20). -/
def State.latched (s : State) (a : Nat) : Word := tget (resetValue s.part) s.pipe.tag.regs a

/-- A field of a frame-latched register. -/
def State.lf (s : State) (a lo len : Nat) : Nat := fld (s.latched a) lo len

/-! ### Power domains (Table 12-1, R264) -/

/-- The state of domain `d` in PWR_VOTE(d) DSTATE: 0 OFF, 1 UP, 2 ON, 3 DRAINING, 4 RET. -/
def State.dstate (s : State) (d : Nat) : Nat := s.f (aOf.pwrVote d) 24 3

/-- A domain is ON. -/
def State.domOn (s : State) (d : Nat) : Bool := s.dstate d == 2

/-- A domain is powered: ON, or DRAINING, where nothing is switched off until its save has ended and a vote brings it back
(R268). -/
def State.domLive (s : State) (d : Nat) : Bool := s.dstate d == 2 || s.dstate d == 3

/-- Domain codes of Table 11-8. -/
def pdCtrl : Nat := 1
/-- PD_HOSTp. -/
def pdHost (p : Port) : Nat := 2 + p.idx
/-- PD_PIPE. -/
def pdPipe : Nat := 4
/-- PD_CRU. -/
def pdCru : Nat := 5
/-- The PD_LANE domain of a lane. -/
def pdLane (n : Nat) : Nat := 6 + n / 16
/-- PD_SEG. -/
def pdSeg : Nat := 10
/-- PD_NV. -/
def pdNv : Nat := 11

/-- The device runs: PORST_N high (R329) and TESTMODE low (R317). -/
def State.alive (s : State) : Bool := !s.pins.porstLow && !s.pins.testmode

/-- A lane that the variant has, in a domain that is ON. -/
def State.laneOn (s : State) (n : Nat) : Bool := n < s.part.lanes && s.domOn (pdLane n)

/-- The domain a block of the address map lies in, and whether the block belongs to an absent unit
(Table 01-8, R5). `none` where no row covers the address. -/
def blockOf (p : Part) (a : Nat) : Option (Nat × Bool) :=
  if 0x40000000 ≤ a && a < 0x40020000 then some (0, false)
  else if 0x40020000 ≤ a && a < 0x40030000 then some (1, false)
  else if 0x40030000 ≤ a && a < 0x40040000 then some (0, false)
  else if 0x40040000 ≤ a && a < 0x40050000 then some (1, false)
  else if 0x40050000 ≤ a && a < 0x40060000 then some (2, false)
  else if 0x40060000 ≤ a && a < 0x40070000 then some (3, !p.hasPort1)
  else if 0x40080000 ≤ a && a < 0x400B0000 then some (4, false)
  else if 0x400B0000 ≤ a && a < 0x400D0000 then some (5, false)
  else if 0x400D0000 ≤ a && a < 0x400E0000 then some (1, false)
  else if 0x40100000 ≤ a && a < 0x40110000 then some (4, false)
  else if 0x40110000 ≤ a && a < 0x40120000 then
    some (pdLane ((a - 0x40110000) / 0x400), p.lanes ≤ (a - 0x40110000) / 0x400)
  else if 0x40180000 ≤ a && a < 0x40190000 then some (10, !p.hasSeg)
  else if 0x40190000 ≤ a && a < 0x401A0000 then some (11, false)
  else if 0x401A0000 ≤ a && a < 0x401D0000 then some (1, false)
  else none

/-- A power domain of an absent unit (R263). -/
def absentDomain (p : Part) (d : Nat) : Bool :=
  (d == 3 && !p.hasPort1) || (d == 10 && !p.hasSeg) ||
  (decide (6 ≤ d) && decide (d ≤ 9) && decide (p.lanes ≤ (d - 6) * 16))

/-- A register of an absent unit that lies in the block of a unit present (R5). -/
def absentReg (p : Part) (a : Nat) : Bool :=
  (!p.hasPort1 && [aOf.timeLat 1, aOf.timeAsym 1, aOf.timeTxq0 1, aOf.timeTxq1 1, aOf.timeTxq2 1, aOf.pourSidh 1,
    aOf.pourSidl 1].contains a) ||
  (List.range 32).any (fun k => decide (a = aOf.lnkPair k) && decide (p.lanes ≤ 2 * k)) ||
  (List.range 12).any (fun d => decide (a = aOf.pwrVote d) && absentDomain p d)

/-! ### Memories -/

/-- What a Crucible byte that nothing has written reads as (assumption 5): tile-map entries name the
tile's own slot, everything else is 0. -/
def cruInit (p : Part) (a : Nat) : Byte :=
  let m := p.tileBase + p.slots * 56
  if m ≤ a && a < m + p.slots * 4 then
    BitVec.ofNat 8 ((a - m) / 4 / 256 ^ ((a - m) % 4))
  else 0#8

/-- What an unwritten byte of the NV array or the retention memory reads as (assumption 5). -/
def zeroInit (_ : Nat) : Byte := 0#8

/-- What an unwritten byte of the Tundish reads as: the background the destructive March of every power-up leaves
(R206). -/
def tunInit (a : Nat) : Byte := if a / 4 % 2 = 0 then 0xAA#8 else 0x55#8

/-- What an unwritten byte of the flash reads as (assumption 5). -/
def flashInit (_ : Nat) : Byte := 0xFF#8

/-- A byte of the Crucible window. -/
def State.cruByte (s : State) (a : Nat) : Byte := tget (cruInit s.part) s.cru.cells a

/-- Write a byte string into a table of bytes. -/
def putBytes (d : Nat → Byte) (t : Tab Byte) (a : Nat) : List Byte → Tab Byte
  | [] => t
  | b :: r => putBytes d (tset d t a b) (a + 1) r

/-- Read a byte string from a table of bytes. -/
def getBytes (d : Nat → Byte) (t : Tab Byte) (a n : Nat) : List Byte :=
  (List.range n).map (fun i => tget d t (a + i))

/-- `n` bytes of the Crucible. -/
def State.cruBytes (s : State) (a n : Nat) : List Byte := getBytes (cruInit s.part) s.cru.cells a n

/-- The poison list without the words a write covers: a word stays uncorrectable until it is written
(R194). -/
def clearPoison (l : List Nat) (a n : Nat) : List Nat :=
  l.filter (fun w => !(decide (a < w * 8 + 8) && decide (w * 8 < a + n)))

/-- Write bytes into the Crucible. -/
def State.cruPut (s : State) (a : Nat) (bs : List Byte) : State :=
  { s with cru := { s.cru with
      cells := putBytes (cruInit s.part) s.cru.cells a bs
      poison := clearPoison s.cru.poison a bs.length } }

/-- A little-endian word of the Crucible. -/
def State.cruWord (s : State) (a : Nat) : Word := BitVec.ofNat 32 (leNat (s.cruBytes a 4))

/-- A little-endian 16-bit code of the Crucible. -/
def State.cruHalf (s : State) (a : Nat) : Nat := leNat (s.cruBytes a 2)

/-- A word of a table set (Table 04-7). -/
def State.setWord (s : State) (b : Bool) (off : Nat) : Word := s.cruWord (s.part.setBase b + off)

/-- A word of the Tundish array itself. -/
def State.tunRaw (s : State) (w : Nat) : Word :=
  BitVec.ofNat 32 (leNat (getBytes tunInit s.tun.cells (w * 4) 4))

/-- Write a word of the array itself. -/
def State.tunRawPut (s : State) (w : Nat) (v : Word) : State :=
  { s with tun := { s.tun with cells := putBytes tunInit s.tun.cells (w * 4) (leBytes v) } }

/-- Word `i` of the borrow buffer, where it is valid. -/
def Borrow.word (b : Borrow) (i : Nat) : Option Word := tget (fun _ => none) b.words i

/-- A word as the masters read it: a redirected block from the borrow buffer, as far as its words are valid there (R207). -/
def State.tunWord (s : State) (w : Nat) : Word :=
  match s.tun.borrow with
  | some b => if w / 1024 = b.block then (b.word (w % 1024)).getD (s.tunRaw w) else s.tunRaw w
  | none => s.tunRaw w

/-- A write by a master: one into a redirected block goes to the borrow buffer and makes the word valid. -/
def State.tunPut (s : State) (w : Nat) (v : Word) : State :=
  match s.tun.borrow with
  | some b =>
    if w / 1024 = b.block then
      { s with tun := { s.tun with borrow := some { b with words := tset (fun _ => none) b.words (w % 1024) (some v) } } }
    else s.tunRawPut w v
  | none => s.tunRawPut w v

/-- `n` bytes of the NV array. -/
def State.nvBytes (s : State) (a n : Nat) : List Byte := getBytes zeroInit s.nv.cells a n

/-- A little-endian word of the NV array (R14). -/
def State.nvWord (s : State) (a : Nat) : Word := BitVec.ofNat 32 (leNat (s.nvBytes a 4))

/-- Write bytes into the NV array. -/
def State.nvPut (s : State) (a : Nat) (bs : List Byte) : State :=
  { s with nv := { s.nv with
      cells := putBytes zeroInit s.nv.cells a bs
      bad := clearPoison s.nv.bad a bs.length
      weak := clearPoison s.nv.weak a bs.length } }

/-! ### Time, stamps and free values -/

/-- Draw a free value: the number of the draw. -/
def State.drawn (s : State) : State := { s with free := s.free + 1 }

/-- The stamp of an event (R22): the local copy of TIME_NS lies within 4 ns of the time base, within
600 ns in the AON domain. -/
def State.stampOf (s : State) (aon : Bool) : Word :=
  let b := if aon then 600 else 4
  s.time.ns + BitVec.ofNat 32 (Config.stampSkew s.free % (2 * b + 1)) - BitVec.ofNat 32 b

/-- The stamp of a port's MAC in 1/256 ns (R178): within 4 ns and one cycle of the recovered clock of 156.25 MHz, the slower of
Table 01-4's two, of the time base (DEDUCED, assumption 118). -/
def State.macStamp (s : State) : BitVec 40 :=
  let b := 2662
  BitVec.ofInt 40 ((s.time.ns.toNat * 256 + s.time.frac.toNat / 2 ^ 24 + Config.stampSkew s.free % (2 * b + 1) : Nat) - (b : Int))

/-- The nanoseconds of a MAC stamp. -/
def stampNs (t : BitVec 40) : Word := BitVec.ofNat 32 (t.toNat / 256)

/-- Insert an arrival into the waiting ones in merge order (R24): after every one of its own route and every one stamped before
it, the route of lower rank first on equal stamps (DEDUCED, assumption 117). -/
def mergeIn {α : Type} (rank : α → Nat) (t : Word) (x : α) : List (Word × α) → List (Word × α)
  | [] => [(t, x)]
  | e :: r =>
    let earlier := (t - e.1).toNat < 2 ^ 31
    if rank e.2 = rank x ∨ r.any (fun g => rank g.2 == rank x) ∨ (e.1 ≠ t ∧ earlier) ∨ (e.1 = t ∧ rank e.2 < rank x) then
      e :: mergeIn rank t x r
    else (t, x) :: e :: r

/-- Extended time of the time base in ns, as firmware counts it (R171), without `base_ns`. -/
def State.extNs (s : State) : Nat := s.time.wrap.toNat * 2 ^ 32 + s.time.ns.toNat

/-! ### Doorbells and events -/

/-- Doorbell bits of set `t` as latched (bit 0 is MSG and is not latched, R227). -/
def State.dbBits (s : State) (t : Nat) : Word := s.rd (aOf.mbxDbstat t)

/-- Set latched doorbell bits of set `t`; bit 0 is unaffected (R227). -/
def State.dbSet (s : State) (t : Nat) (bits : Word) : State :=
  s.wr (aOf.mbxDbstat t) (s.dbBits t ||| (bits &&& 0xFFFFFFFE#32))

/-- Clear latched doorbell bits of set `t`; bit 0 is unaffected (R227). -/
def State.dbClear (s : State) (t : Nat) (bits : Word) : State :=
  s.wr (aOf.mbxDbstat t) (s.dbBits t &&& ~~~(bits &&& 0xFFFFFFFE#32))

/-- The route byte of event source `n` (EVT_ROUTE, R233). -/
def State.routeOf (s : State) (n : Nat) : Nat := s.f (aOf.evtRoute (n / 4)) (n % 4 * 8) 8

/-- Set the doorbell bit the route of source `n` names; a route to bit 0 acts as bit 1 (R233). -/
def State.ring (s : State) (n : Nat) : State :=
  let b := s.routeOf n % 32
  s.dbSet (s.routeOf n / 64) (BitVec.ofNat 32 (2 ^ (if b = 0 then 1 else b)))

/-- Whether the status of source `n` is latched. -/
def State.evSet (s : State) (n : Nat) : Bool := s.bit (aOf.evtStat (n / 32)) (n % 32)

/-- Whether source `n` is enabled. -/
def State.evEn (s : State) (n : Nat) : Bool := s.bit (aOf.evtEn (n / 32)) (n % 32)

/-- Events 8 to 14 come from PD_AON, whose time copy is the coarse one (R22); the mailbox works with the clock of the accessing
side (Table 01-1), so that 904 to 906 do not. -/
def fromAon (n : Nat) : Bool := decide (8 ≤ n) && decide (n ≤ 14)

/-- The extended time of a stamp taken close to this instant (R22, R171). -/
def State.extAt (s : State) (t : Word) : Int := s.fw.servo.baseNs + s.extNs + sx 32 (t - s.time.ns).toNat

/-- The words of an event-log record between SEQ and CRC (Table 13-4): event number, seconds, nanoseconds and detail. -/
def logEntry (n : Nat) (ext : Int) (qual : Nat) (tseg boot : Nat) (detail : Word) : List Word :=
  let t := ext.toNat
  let sec := t / 1000000000
  [BitVec.ofNat 32 (qual * 2 ^ 24 + tseg % 256 * 2 ^ 16 + boot % 65536), BitVec.ofNat 32 sec,
   BitVec.ofNat 32 (n * 2 ^ 16 + sec / 2 ^ 32 % 65536), BitVec.ofNat 32 (t % 1000000000), detail, 0#32]

/-- A log record with its SEQ and CRC (Table 13-4). -/
def logRecord (seq : Nat) (r : List Word) : List Byte :=
  let b := (BitVec.ofNat 32 seq :: r).flatMap leBytes
  b ++ leBytes (crc32c b)

/-- Records in the retention tail: PWR_PFSTAT TAIL, at most 64 (R279). -/
def State.tailCount (s : State) : Nat := min (s.f aOf.pwrPfstat 8 7) 64

/-- Write bytes into the retention memory (Table 12-7). -/
def State.retPut (s : State) (a : Nat) (bs : List Byte) : State :=
  { s with pwr := { s.pwr with retMem := putBytes zeroInit s.pwr.retMem a bs } }

/-- Firmware puts a record into the retention tail, at 0x2000 of the retention memory, with the next SEQ, and counts it in
PWR_PFSTAT TAIL; a full tail of 64 counts a lost record (R292). -/
def State.logPush (s : State) (r : List Word) : State :=
  let n := s.tailCount
  if n < 64 then
    (({ s with fw := { s.fw with logSeq := s.fw.logSeq + 1 } }).retPut (0x2000 + n * 32) (logRecord s.fw.logSeq r)).setF aOf.pwrPfstat 8 7 (n + 1)
  else { s with fw := { s.fw with logLost := s.fw.logLost + 1 } }

/-- The servo's state (R180): acquiring and holdover end once an offset has been measured and slewed out. -/
def State.servoState (s : State) : Nat :=
  if s.fw.servo.ending && decide (s.time.adjRem = 0) then 2 else s.fw.servo.state

/-- The record of an event stamped `t`: the log is in the order of the stamps (R23). -/
def State.logNow (s : State) (n : Nat) (detail t : Word) : List Word :=
  logEntry n (s.extAt t) s.servoState s.fw.tseg s.fw.bootCount detail

/-- Firmware logs a latch of groups 0 to 14, and its own events of group 15 (R292); the record of LOG_LOST (967) is
made where the tail is appended. -/
def State.logLatch (s : State) (n : Nat) (detail : Word) : State :=
  s.when (s.fw.started && n != 967) (fun s => s.logPush (s.logNow n detail (s.rd (aOf.evtTime n))))

/-- An event source occurs (R232): while PD_CTRL is powered and its status is 0, the status sets, the stamp is
taken, the routed doorbell bit sets if the source is enabled, and firmware logs the latch. -/
def State.raiseD (s : State) (n : Nat) (detail : Word) : State :=
  if s.domLive pdCtrl && !s.evSet n then
    let s := (s.wr (aOf.evtTime n) (s.stampOf (fromAon n))).drawn
    let s := s.setBit (aOf.evtStat (n / 32)) (n % 32) true
    let s := s.when (s.evEn n) (·.ring n)
    s.logLatch n detail
  else s

/-- An event source occurs, with no detail to log. -/
def State.raise (s : State) (n : Nat) : State := s.raiseD n 0#32

end Sys2Proof.Machine
end

