-- ==== Sys2Proof/Machine/Reply.lean ====
section
/-! DEFINITION. Mailbox FIFOs (R220 to R223), endpoint generations (R223) and the replies firmware posts
(R224, R236, R238): shared operations, with no command of their own. -/

namespace Sys2Proof.Machine

open Sys2Proof

/-! ### Mailbox FIFOs -/

/-- An empty FIFO. -/
def Fifo.empty (_ : Nat) : Fifo := { words := [], stamps := [], visible := 0 }

/-- FIFO `d` of Table 10-6. -/
def State.fifo (s : State) (d : Nat) : Fifo := tget Fifo.empty s.mbx d

/-- Replace FIFO `d`. -/
def State.setFifo (s : State) (d : Nat) (f : Fifo) : State := { s with mbx := tset Fifo.empty s.mbx d f }

/-- Words a header's LEN announces (Table 10-7). -/
def msgLen (h : Word) : Nat := fld h 0 4 + 1

/-- A word stamped `t` joins a FIFO; when it completes its message the whole message becomes visible (R220). -/
def Fifo.push (t : Word) (f : Fifo) (v : Word) : Fifo :=
  let ws := f.words ++ [v]
  let f := { f with words := ws, stamps := f.stamps ++ [t] }
  match ws.drop f.visible with
  | [] => f
  | h :: r => if r.length + 1 = msgLen h then { f with visible := ws.length } else f

/-- Free words of a FIFO of 16. -/
def Fifo.free (f : Fifo) : Nat := 16 - f.words.length

/-- OLDW of FIFO `d`. -/
def State.oldw (s : State) (d : Nat) : Nat := s.f (aOf.mbxCnt d) 16 5

/-- MBX_CNT(d): DISC and OLDW as held, FREE and WORDS as they stand. -/
def State.mbxCntView (s : State) (d : Nat) : Word :=
  let f := s.fifo d
  setFld (setFld (s.rd (aOf.mbxCnt d)) 8 5 f.free) 0 5 f.visible

/-- A visible word leaves FIFO `d`, and OLDW falls by one down to 0 (R223). -/
def State.popWord (s : State) (d : Nat) : State :=
  let f := s.fifo d
  (s.setFifo d ⟨f.words.drop 1, f.stamps.drop 1, f.visible - 1⟩).setF (aOf.mbxCnt d) 16 5 (s.oldw d - 1)

/-- A message left incomplete by a resetting writer is discarded, DISC advances and event 905 is raised
(R222). -/
def State.discardPartial (s : State) (d : Nat) : State :=
  let f := s.fifo d
  if f.visible < f.words.length then
    ((s.setFifo d { f with words := f.words.take f.visible, stamps := f.stamps.take f.visible }).bump (aOf.mbxCnt d) 24 8 1).raise 905
  else s

/-! ### Generations (R223) -/

/-- An endpoint of MBX_GEN: host 0, device 1, CP0 2, CP1 3. -/
def State.gen (s : State) (e : Nat) : Nat := s.f aOf.mbxGen (4 * e) 4

/-- The reader of a FIFO advanced its generation: OLDW takes the count of visible words. -/
def State.markOld (s : State) (d : Nat) : State := s.setF (aOf.mbxCnt d) 16 5 (s.fifo d).visible

/-- The FIFO an endpoint reads (Table 10-6). -/
def readsFifo (e : Nat) : Nat :=
  match e with
  | 0 => 1 | 1 => 0 | 2 => 3 | _ => 2

/-- The generation of an endpoint becomes `v`. -/
def State.setGen (s : State) (e v : Nat) : State := (s.setF aOf.mbxGen (4 * e) 4 v).markOld (readsFifo e)

/-- The generation of an endpoint advances modulo 16. -/
def State.nextGen (s : State) (e : Nat) : State := s.setGen e (s.gen e + 1)

/-- A new host generation: the host was reset, so its incomplete message is discarded (R222, R223). -/
def State.hostGen (s : State) (v : Nat) : State := (s.setGen 0 v).discardPartial 0

/-- The active core (R210). -/
def State.active (s : State) : Core := if s.bit aOf.sysRole 0 then .cp1 else .cp0

/-- A core's state. -/
def State.core (s : State) : Core → CoreState
  | .cp0 => s.cpu.core0
  | .cp1 => s.cpu.core1

/-- Replace a core's state. -/
def State.setCore (s : State) (c : Core) (v : CoreState) : State :=
  match c with
  | .cp0 => { s with cpu := { s.cpu with core0 := v } }
  | .cp1 => { s with cpu := { s.cpu with core1 := v } }

/-- The FIFO a core writes towards the other (Table 10-6). -/
def xmbOut : Core → Nat
  | .cp0 => 2
  | .cp1 => 3

/-- A core is reset (R222, R223): its generation advances, its incomplete messages are discarded, and
STBY_RDY clears. -/
def State.resetCore (s : State) (c : Core) : State :=
  let s := ((s.setCore c .rom).nextGen (2 + c.idx)).discardPartial (xmbOut c)
  let s := s.when (decide (s.active = c)) (fun s => { s.discardPartial 1 with fw := { (s.discardPartial 1).fw with hmbIn := [] } })
  s.setBit aOf.sysRole 4 false

/-! ### Firmware and replies -/

/-- Firmware runs on the active core and PD_CTRL is ON. -/
def State.fwRuns (s : State) : Bool := s.alive && s.domOn pdCtrl && s.fw.started

/-- A host port. -/
def State.hostPort (s : State) : Port → HostPort
  | .p0 => s.port0
  | .p1 => s.port1

/-- Replace a host port. -/
def State.setHostPort (s : State) (p : Port) (h : HostPort) : State :=
  match p with
  | .p0 => { s with port0 := h }
  | .p1 => { s with port1 := h }

/-- The message header word of Table 10-7. -/
def hdrWord (opcode seq : BitVec 8) (gen : Nat) (error reply : Bool) (len : Nat) : Word :=
  BitVec.ofNat 32 (opcode.toNat * 2 ^ 24 + seq.toNat * 2 ^ 16 + gen % 16 * 2 ^ 12 + b2n error * 2 ^ 9 +
    b2n reply * 2 ^ 8 + (len - 1) % 16)

/-- A message of firmware enters HMB out. -/
def State.hmbPut (s : State) (ws : List Word) : State := s.drawn.setFifo 1 (ws.foldl (Fifo.push (s.stampOf false)) (s.fifo 1))

/-- The frame of a message the device sends to an address (R236). -/
def State.ethHead (s : State) (dst : BitVec 48) (vlan : Option (BitVec 16)) : EthHead :=
  { dst := dst, vlan := vlan, streamId := s.fw.items.ctrlSid }

/-- Waiting SPI replies enter HMB out while there is room; one whose request's generation has changed is
dropped (R224, R242). -/
def drainOutbox : Nat → State → State
  | 0, s => s
  | n + 1, s =>
    match s.fw.outbox with
    | [] => s
    | (g, ws) :: r =>
      if g.toNat ≠ s.gen 0 then drainOutbox n { s with fw := { s.fw with outbox := r } }
      else if ws.length ≤ (s.fifo 1).free then
        drainOutbox n ((({ s with fw := { s.fw with outbox := r } }).hmbPut ws).emit (.reply .spi none (ws.headD 0#32) (ws.drop 1)))
      else s

/-- Firmware posts a reply to a request: nothing if the sender's generation has changed (R224); over SPI
it waits for room (R242); over a port it goes to the source of the request, with its VLAN tag, in the control stream, and where
the link is down it is discarded and counted (R236). -/
def State.reply (s : State) (opcode : BitVec 8) (q : Msg) (status detail : Nat) (ws : List Word) : State :=
  if q.gen.toNat ≠ s.gen 0 then s
  else
    let body := if status = 0 then ws else []
    let w1 := BitVec.ofNat 32 (detail % 65536 * 65536 + status)
    let h := hdrWord opcode q.seq (s.gen 1) (status != 0) true (2 + body.length)
    match q.route with
    | .spi =>
      let s := { s with fw := { s.fw with outbox := s.fw.outbox ++ [(q.gen, h :: w1 :: body)] } }
      drainOutbox s.fw.outbox.length s
    | .port p =>
      if (s.hostPort p).up && !(s.hostPort p).inReset then s.emit (.reply q.route (some (s.ethHead q.mac q.vlan)) h (w1 :: body))
      else { s with fw := { s.fw with repliesLost := s.fw.repliesLost + 1 } }

/-- Statuses of Table 11-1. -/
def stOk : Nat := 0
/-- BUSY. -/
def stBusy : Nat := 1
/-- INVALID. -/
def stInvalid : Nat := 2
/-- ABSENT. -/
def stAbsent : Nat := 3
/-- DENIED. -/
def stDenied : Nat := 4
/-- TIMEOUT. -/
def stTimeout : Nat := 7
/-- STALE. -/
def stStale : Nat := 9
/-- FAULT. -/
def stFault : Nat := 10
/-- SUPERSEDED. -/
def stSuperseded : Nat := 12

/-- The requests in progress that satisfy `p` are answered and leave the list. -/
def State.answerWhere (s : State) (p : Request → Bool) (status : Nat) (ws : State → Request → List Word) : State :=
  let rs := s.fw.requests.filter p
  let s := { s with fw := { s.fw with requests := s.fw.requests.filter (fun r => !p r) } }
  rs.foldl (fun s r => s.reply r.opcode r.q status 0 (ws s r)) s

/-- Change what a request in progress waits for. -/
def State.rewait (s : State) (f : Request → Request) : State :=
  { s with fw := { s.fw with requests := s.fw.requests.map f } }

/-- Whether a test fails whose pass the manual does not define. -/
def State.openFail (s : State) : Bool := bitOf (Config.measured s.free) 0

/-- The self-test `t` runs. -/
def State.testing (s : State) (t : Nat) : Bool := s.fw.test.any (fun x => x.id == t)

/-- The running self-test counts `n` more. -/
def State.testCounts (s : State) (n : Nat) : State :=
  { s with fw := { s.fw with test := s.fw.test.map (fun x => { x with count := x.count + n }) } }

/-- The limit the manual states for a self-test's run in ns: an eye scan ends within 3.6 s (R153); no other is
stated (DEDUCED, assumption 122). -/
def testLimit : Nat → Option Nat
  | 6 => some 3600000000
  | _ => none

/-- A self-test has run longer than its stated limit. -/
def State.testLate (s : State) (x : SelfTest) : Bool :=
  match testLimit x.id with
  | some d => decide (x.start + d < s.extNs)
  | none => false

/-- The self-test `t` ends (R261): its request is answered with W2 to W4, how long it took being an open value; TIMEOUT after more
than its stated limit. An OFFLINE one is answered by R26, after the next edge. -/
def State.endTest (s : State) (t : Nat) (fail : Bool) (detail : Word) : State :=
  match s.fw.test with
  | none => s
  | some x =>
    if x.id ≠ t then s
    else if x.offline then s.rewait (fun r => if r.wait = .test t then { r with wait := .nextEdge } else r)
    else
      let w4 := Config.duration s.free
      let late := s.testLate x
      let s := { s.drawn with fw := { s.fw with test := none } }
      s.answerWhere (fun r => decide (r.wait = .test t)) (if late then stTimeout else stOk)
        (fun _ _ => [BitVec.ofNat 32 (t + b2n fail * 256), detail, w4])

/-- The self-test `t` cannot complete (R261): FAULT; the codes that name a cause are not given. -/
def State.faultTest (s : State) (t : Nat) : State :=
  if s.testing t then
    let d := (Config.measured s.free).toNat % 65536
    let rs := s.fw.requests.filter (fun r => decide (r.wait = .test t))
    let s := { s.drawn with fw := { s.fw with test := none, requests := s.fw.requests.filter (fun r => !decide (r.wait = .test t)) } }
    rs.foldl (fun s r => s.reply r.opcode r.q stFault d []) s
  else s

/-- Firmware reads the result of a pour the lamp manager injected (R80, R244): on OK the request waits for
the launch of the frame (R26), a mask request for its first gated line (R238); otherwise it is answered with
the status that fits, DENIED for a pour a flush ended (R239). -/
def State.injectedEnded (s : State) (id : BitVec 16) (code : Nat) (frame : Word) : State :=
  if code = 0 then
    let s := s.rewait (fun r =>
      if r.wait = .pour id then { r with wait := .launch frame, frameWord := some frame }
      else if r.wait = .maskLine id then { r with wait := .nextLine } else r)
    match s.fw.cuts.find? (fun c => c.2 == id) with
    | some c => { s with fw := { s.fw with cuts := s.fw.cuts.filter (fun e => e.2 != id), entered := some c.1 } }
    | none => s
  else
    let st := if code = 6 then stDenied else if code = 2 then stInvalid else if code = 10 then stFault else stBusy
    let s := s.answerWhere (fun r => decide (r.wait = .pour id) || decide (r.wait = .maskLine id)) st (fun _ _ => [])
    let mine := s.fw.cuts.any (fun c => c.2 == id)
    { s with fw := { s.fw with cuts := s.fw.cuts.filter (fun e => e.2 != id), entering := if mine && s.fw.entering == 1 then 2 else s.fw.entering } }

end Sys2Proof.Machine
end

