-- ==== Sys2Proof/Machine/NvOps.lean ====
section
/-! DEFINITION. The NV store's operations (R283 to R292): protection, units, two-copy records, the records
firmware keeps, and the event log. No command of its own. -/

namespace Sys2Proof.Machine

open Sys2Proof

/-! ### Protection (R286) and units (R284) -/

/-- NVC_CTRL BP covers an address. -/
def State.bpCovers (s : State) (a : Nat) : Bool :=
  match s.f aOf.nvcCtrl 0 2 with
  | 0 => false
  | 1 => decide (0xC0000 ≤ a)
  | 2 => decide (0x80000 ≤ a)
  | _ => true

/-- A write to an address is not made: BP, or the factory record outside DEVELOPMENT. -/
def State.nvProtected (s : State) (a : Nat) : Bool :=
  s.bpCovers a || (decide (a < 0x8000) && s.fuses.lifecycle != .development)

/-- NVC_STAT QFREE and IDLE follow the queue. -/
def State.showQueue (s : State) : State :=
  (s.setF aOf.nvcStat 0 3 (4 - s.nv.queue.length)).setBit aOf.nvcStat 4 s.nv.queue.isEmpty

/-- NVC_STAT REFUSE: a power-fail save holds off the masters. -/
def State.nvRefuses (s : State) : Bool := s.bit aOf.nvcStat 3

/-- The queued units stand in the array: a write that firmware makes, or a read that stalls on their page, comes after them
(R284, R285; the wait is not shown: DESIGN CHOICE, assumption 106). -/
def State.nvDrain (s : State) : State :=
  if s.nv.queue.isEmpty then s
  else
    let q := s.nv.queue
    (q.foldl (fun (t : State) u => t.nvPut u.1 u.2) { s with nv := { s.nv with queue := [] } }).showQueue

/-- A read of a page with a unit waiting stalls until it is written (R285). -/
def State.nvStall (s : State) (a : Nat) : State := s.when (s.nv.queue.any (fun u => u.1 / 4096 == a / 4096)) State.nvDrain

/-- A write of firmware or a hardware save: nothing where its first byte is protected, which event 837 says. -/
def State.nvWrite (s : State) (a : Nat) (bs : List Byte) : State :=
  if s.nvProtected a then s.raise 837 else s.nvDrain.nvPut a bs

/-- A group known uncorrectable lies in a range (R287). -/
def State.nvBad (s : State) (a n : Nat) : Bool := s.nv.bad.any (fun g => decide (a < g * 8 + 8) && decide (g * 8 < a + n))

/-! ### Two-copy records (R288 to R290, Tables 13-2 and 13-3) -/

/-- Header address of a copy. -/
def recHdr (id c : Nat) : Nat :=
  match id with
  | 0 => c * 0x4000
  | 1 => 0x60000 + c * 0x400
  | 2 => 0x60800 + c * 0x400
  | 3 => 0x61000 + c * 0x1000
  | 4 => 0x63000 + c * 0x400
  | 5 => 0x10000 + c * 0x4000
  | 6 => 0x18000 + c * 0x14000
  | 7 => 0x08000 + c * 0x4000
  | n => 0x64000 + (n - 0x10) * 0x2000 + c * 0x1000

/-- Body address of a copy. -/
def recBody (id c : Nat) : Nat := if id = 4 then 0x80000 + c * 0x40000 else recHdr id c + 32

/-- Bytes a body may have. -/
def recMax (id : Nat) : Nat :=
  match id with
  | 0 | 5 | 7 => 0x4000 - 32
  | 1 | 2 => 0x400 - 32
  | 4 => 0x40000
  | 6 => 0x14000 - 32
  | _ => 0x1000 - 32

/-- SEQ of a copy. -/
def State.recSeq (s : State) (id c : Nat) : Word := s.nvWord (recHdr id c + 4)

/-- LEN of a copy. -/
def State.recLen (s : State) (id c : Nat) : Nat := (s.nvWord (recHdr id c + 8)).toNat

/-- Body bytes of a copy. -/
def State.recBytes (s : State) (id c : Nat) : List Byte := s.nvBytes (recBody id c) (s.recLen id c)

/-- A copy is valid (R288); one that holds an uncorrectable group cannot be read, and is not. -/
def State.recValid (s : State) (id c : Nat) : Bool :=
  let h := recHdr id c
  let w (i : Nat) := s.nvWord (h + 4 * i)
  fld (w 0) 16 16 == 0xA5C3 && fld (w 0) 0 16 == id && w 1 != 0#32 && w 1 != 0xFFFFFFFF#32 &&
  decide (s.recLen id c ≤ recMax id) && !s.nvBad h 32 && !s.nvBad (recBody id c) (s.recLen id c) &&
  w 7 == crc32c (s.nvBytes h 28) && w 3 == crc32c (s.recBytes id c)

/-- The copy in force (R290). -/
def State.recInForce (s : State) (id : Nat) : Option Nat :=
  match s.recValid id 0, s.recValid id 1 with
  | false, false => none
  | true, false => some 0
  | false, true => some 1
  | true, true => if (s.recSeq id 0).toNat < (s.recSeq id 1).toNat then some 1 else some 0

/-- Both copies are valid with equal sequences and differing bodies. -/
def State.recTie (s : State) (id : Nat) : Bool :=
  s.recValid id 0 && s.recValid id 1 && s.recSeq id 0 == s.recSeq id 1 && s.recBytes id 0 != s.recBytes id 1

/-- Word `i` of a body. -/
def bodyWord (bs : List Byte) (i : Nat) : Word := BitVec.ofNat 32 (leNat ((bs.drop (4 * i)).take 4))

/-- The bytes of a list of words. -/
def wordsBytes (ws : List Word) : List Byte := ws.flatMap leBytes

/-- The greater of two words. -/
def maxWord (a b : Word) : Word := if a.toNat < b.toNat then b else a

/-- The merge of two bodies by the tie rule of Table 13-3. -/
def mergeBodies (id : Nat) (a b : List Byte) : List Byte :=
  if id = 1 ∨ id = 2 ∨ id = 4 then
    wordsBytes ((List.range (max a.length b.length / 4)).map (fun i =>
      if id = 1 ∧ i = 0 then bodyWord a 0 else maxWord (bodyWord a i) (bodyWord b i)))
  else a

/-- The body in force, merged where the copies tie; the factory record is never merged. -/
def State.recLoad (s : State) (id : Nat) : Option (List Byte) :=
  if s.recTie id && id != 0 then some (mergeBodies id (s.recBytes id 0) (s.recBytes id 1))
  else (s.recInForce id).map (s.recBytes id)

/-- The events of a load (R290). -/
def State.recEvents (s : State) (id : Nat) : State :=
  match s.recValid id 0, s.recValid id 1 with
  | false, false => s.raiseD 966 (BitVec.ofNat 32 id)
  | true, true => s.when (s.recTie id && id != 0) (·.raiseD 964 (BitVec.ofNat 32 id))
  | _, _ => s.raiseD 965 (BitVec.ofNat 32 id)

/-- A record header (Table 13-2). -/
def recHeader (id seq : Nat) (body : List Byte) : List Byte :=
  let h := wordsBytes [BitVec.ofNat 32 (0xA5C3 * 65536 + id), BitVec.ofNat 32 seq, BitVec.ofNat 32 body.length, crc32c body, 0#32, 0#32, 0#32]
  h ++ leBytes (crc32c h)

/-- Write a copy, its header last, after the units queued before it. -/
def State.recPut (s : State) (id c seq : Nat) (body : List Byte) : State :=
  (s.nvDrain.nvPut (recBody id c) body).nvPut (recHdr id c) (recHeader id seq body)

/-- The copy a save writes, and its sequence (R289). -/
def State.recNext (s : State) (id : Nat) : Nat × Nat :=
  let s := s.nvDrain
  match s.recInForce id with
  | none => (0, 1)
  | some c => (1 - c, (s.recSeq id c).toNat + 1)

/-- A save of a record by firmware; a protected copy is not written (R286). -/
def State.recSave (s : State) (id : Nat) (body : List Byte) : State :=
  let t := s.recNext id
  if s.nvProtected (recHdr id t.1) || s.nvProtected (recBody id t.1) then s.raise 837 else s.recPut id t.1 t.2 body

/-! ### Bodies the manual leaves to firmware -/

/-- A 64-bit number as two words, high first. -/
def words64 (v : Nat) : List Word := [BitVec.ofNat 32 (v / 2 ^ 32), BitVec.ofNat 32 v]

/-- The number two such words spell. -/
def nat64 (hi lo : Word) : Nat := hi.toNat * 2 ^ 32 + lo.toNat

/-- The code of a table opcode in Table 03-3; 0 for any other. -/
def loadCode : PourOp → Nat
  | .layerSet => 0x30 | .meshWrite => 0x31 | .tableWrite => 0x32 | _ => 0

/-- A table of the configuration record. -/
def Load.body (l : Load) : List Byte :=
  wordsBytes [BitVec.ofNat 32 (loadCode l.op * 2 ^ 24 + l.target % 256 * 2 ^ 16 + l.bytes.length), l.w2, l.w3] ++ l.bytes ++
    List.replicate ((4 - l.bytes.length % 4) % 4) 0#8

/-- The tables at the front of a byte string. -/
def loadsOf : Nat → List Byte → List Load
  | 0, _ => []
  | n + 1, bs =>
    let h := bodyWord bs 0
    let len := fld h 0 16
    let rest := loadsOf n (bs.drop (12 + (len + 3) / 4 * 4))
    let l (op : PourOp) : Load :=
      { id := 0, op := op, target := fld h 16 8, w2 := bodyWord bs 1, w3 := bodyWord bs 2, switch := false, bytes := (bs.drop 12).take len }
    match fld h 24 8 with
    | 0x30 => l .layerSet :: rest
    | 0x31 => l .meshWrite :: rest
    | 0x32 => l .tableWrite :: rest
    | _ => rest

/-- The configuration record's body: the items of Table 11-6, the grid of R302, registers and tables. -/
def Items.body (i : Items) : List Byte :=
  wordsBytes ([BitVec.ofNat 32 i.streamTmo, BitVec.ofNat 32 i.routes] ++ words64 i.dstMac.toNat ++
    [BitVec.ofNat 32 i.hbPeriod, BitVec.ofNat 32 i.framePeriod, BitVec.ofNat 32 i.burstPeriod, BitVec.ofNat 32 i.litOp] ++
    words64 i.pourSid.toNat ++ [BitVec.ofNat 32 i.pourPorts] ++ words64 i.ctrlSid.toNat ++
    (match i.grid with
     | none => [0#32, 0#32, 0#32]
     | some (e, p) => words64 e.toNat ++ [BitVec.ofNat 32 p]) ++
    [BitVec.ofNat 32 (i.regs.length + i.tables.length * 65536)] ++ i.regs.flatMap (fun r => [BitVec.ofNat 32 r.1, r.2])) ++
  i.tables.flatMap Load.body

/-- The configuration a body holds. -/
def itemsOf (bs : List Byte) : Items :=
  let w := bodyWord bs
  { streamTmo := (w 0).toNat, routes := (w 1).toNat, dstMac := BitVec.ofNat 48 (nat64 (w 2) (w 3)), hbPeriod := (w 4).toNat
    framePeriod := (w 5).toNat, burstPeriod := (w 6).toNat, litOp := (w 7).toNat
    pourSid := BitVec.ofNat 64 (nat64 (w 8) (w 9)), pourPorts := (w 10).toNat, ctrlSid := BitVec.ofNat 64 (nat64 (w 11) (w 12))
    grid := if w 15 = 0#32 then none else some ((nat64 (w 13) (w 14) : Nat), (w 15).toNat)
    regs := (List.range (fld (w 16) 0 16)).map (fun k => ((w (17 + 2 * k)).toNat, w (18 + 2 * k)))
    tables := loadsOf (fld (w 16) 16 16) (bs.drop (68 + 8 * fld (w 16) 0 16)) }

/-- The Crucible record's body (R200): CRU_BANKMAP, CRU_PSTATE, and the 12 repair entries of each bank. -/
def State.mapBody (s : State) : List Byte :=
  wordsBytes ((List.range 32).map (fun i => s.rd (aOf.cruBankmap i)) ++ (List.range 9).map (fun i => s.rd (aOf.cruPstate i))) ++
  (List.range 136).flatMap (fun b => (List.range 12).flatMap (fun e =>
    (leBytes (tget (fun _ => 0#32) s.cru.repairs (b * 16 + e))).take 2))

/-- Firmware saves the Crucible map after a retirement or a repair (R200); the writes of a running power-fail save hold its own
off (R279). -/
def State.saveMap (s : State) : State := s.when (s.fw.started && !s.nvRefuses) (fun s => s.recSave 3 s.mapBody)

/-! ### Hours and wear (R291, R307) -/

/-- The operating-hours record is saved, by HCOPY and NVC_HSEQ. -/
def State.saveHours (s : State) : State :=
  let c := 1 - s.f aOf.nvcWear 1 1
  let seq := s.rd aOf.nvcHseq + 1#32
  if s.bpCovers (recHdr 2 c) then s.raise 837
  else
    let body := wordsBytes ([s.rd aOf.pwrPwrsec, s.rd aOf.pwrLitsec] ++ List.replicate 6 0#32)
    ((s.recPut 2 c seq.toNat body).setF aOf.nvcWear 1 1 c).wr aOf.nvcHseq seq

/-- The counters of `n` tiles from tile index `t`; tiles beyond the variant give 0 (R117, R279). -/
def State.wearCounters (s : State) (t n : Nat) : List Byte :=
  (List.range n).flatMap (fun i =>
    if (t + i) % 512 < s.part.tileCols ∧ (t + i) / 512 * 8 < s.part.gridH then
      s.cruBytes (s.part.tileBase + s.part.packed (t + i) * 16 + 8) 4
    else [0#8, 0#8, 0#8, 0#8])

/-- The wear copy a save targets. -/
def State.wearCopy (s : State) : Nat := 1 - s.f aOf.nvcWear 0 1

/-- The wear engine writes its next unit: eight counters (R284, R291). -/
def State.wearUnit (s : State) : State :=
  let k := s.nv.wearAt
  if !s.nv.wear || decide (8192 ≤ k) || s.bpCovers (recBody 4 s.wearCopy) then s
  else
    let s := s.nvPut (recBody 4 s.wearCopy + 32 * k) (s.wearCounters (8 * k) 8)
    { s with nv := { s.nv with wearAt := k + 1 } }

/-- The wear record is written into the copy not in force, the counters from unit `k` on being those of now; whether BP let it. -/
def State.writeWear (s : State) (k : Nat) : State × Bool :=
  let c := s.wearCopy
  let seq := s.rd aOf.nvcWseq + 1#32
  if s.bpCovers (recBody 4 c) then (s.raise 837, false)
  else
    let body := s.nvBytes (recBody 4 c) (32 * k) ++ s.wearCounters (8 * k) (65536 - 8 * k)
    let s := (s.nvPut (recBody 4 c) body).nvPut (recHdr 4 c) (recHeader 4 seq.toNat body)
    ((({ s with nv := { s.nv with wearAt := 0 } }).setF aOf.nvcWear 0 1 c).wr aOf.nvcWseq seq, true)

/-- Firmware loads the wear copy in force into the thermal area (R117, R300 step 3). -/
def State.loadWear (s : State) : State :=
  match s.recLoad 4 with
  | none => s
  | some bs =>
    (List.range 65536).foldl (fun s t =>
      s.when (decide (t % 512 < s.part.tileCols) && decide (t / 512 * 8 < s.part.gridH)) (fun s =>
        let v := bodyWord bs t
        s.when (v != 0#32) (fun s => s.cruPut (s.part.tileBase + s.part.packed t * 16 + 8) (leBytes v)))) s

/-! ### The event log (R292, Table 13-4) -/

/-- A record is appended at NVC_LOGPTR. -/
def State.logAppendOne (s : State) (r : List Byte) : State :=
  let p := s.f aOf.nvcLogptr 0 12
  (s.nvPut (0x40000 + p * 32) r).setF aOf.nvcLogptr 0 12 (p + 1)

/-- Record `i` of the retention tail, as the retention memory holds it. -/
def State.tailRecord (s : State) (i : Nat) : List Byte := getBytes zeroInit s.pwr.retMem (0x2000 + i * 32) 32

/-- The records of the retention tail are appended and leave it; a protected log keeps them waiting. -/
def State.logFlush (s : State) : State :=
  if s.tailCount = 0 then s
  else if s.nvProtected 0x40000 then s.raise 837
  else ((List.range s.tailCount).foldl (fun t i => t.logAppendOne (s.tailRecord i)) s.nvDrain).setF aOf.pwrPfstat 8 7 0

/-- Firmware appends the tail; where records were lost, the next one appended is LOG_LOST with their count. -/
def State.logAppend (s : State) : State :=
  let s := s.logFlush
  if s.fw.logLost = 0 ∨ s.nvProtected 0x40000 then s
  else
    let s := s.raise 967
    let s := s.nvDrain.logAppendOne (logRecord s.fw.logSeq (s.logNow 967 (BitVec.ofNat 32 s.fw.logLost) s.time.ns))
    { s with fw := { s.fw with logLost := 0, logSeq := s.fw.logSeq + 1 } }

/-- The ring slots that hold a valid record, of those with a byte listed. -/
def State.logSlots (s : State) : List Nat :=
  let ks := (s.nv.cells.filter (fun e => decide (0x40000 ≤ e.1) && decide (e.1 < 0x60000))).map (fun e => (e.1 - 0x40000) / 32)
  ks.dedup.filter (fun k => !s.nvBad (0x40000 + k * 32) 32 && s.nvWord (0x40000 + k * 32 + 28) == crc32c (s.nvBytes (0x40000 + k * 32) 28))

/-- SEQ of a ring slot. -/
def State.logSeqAt (s : State) (k : Nat) : Nat := (s.nvWord (0x40000 + k * 32)).toNat

/-- At boot NVC_LOGPTR is set past the slot with the highest valid SEQ; the records that wait in the tail hold the next ones. -/
def State.logFind (s : State) : State :=
  match s.logSlots with
  | [] => { s.setF aOf.nvcLogptr 0 12 0 with fw := { s.fw with logSeq := s.tailCount } }
  | k :: r =>
    let m := r.foldl (fun m j => if s.logSeqAt m < s.logSeqAt j then j else m) k
    { s.setF aOf.nvcLogptr 0 12 (m + 1) with fw := { s.fw with logSeq := s.logSeqAt m + 1 + s.tailCount } }

/-- The order of LOG_READ: (BOOT, TSEG, seconds, nanoseconds, event number) as one number. -/
def State.logKey (s : State) (k : Nat) : Nat :=
  let w (i : Nat) := s.nvWord (0x40000 + k * 32 + 4 * i)
  (((fld (w 1) 0 16 * 2 ^ 8 + fld (w 1) 16 8) * 2 ^ 48 + fld (w 3) 0 16 * 2 ^ 32 + (w 2).toNat) * 2 ^ 32 + (w 4).toNat) * 2 ^ 16 + fld (w 3) 16 10

/-- Insert a slot in descending order of its key. -/
def insertKey (f : Nat → Nat) (k : Nat) : List Nat → List Nat
  | [] => [k]
  | j :: r => if f j ≤ f k then k :: j :: r else j :: insertKey f k r

/-- The valid slots, newest first. -/
def State.logNewest (s : State) : List Nat := s.logSlots.foldl (fun l k => insertKey s.logKey k l) []

/-- Byte `a` of the retention memory (Table 12-7). -/
def State.retByte (s : State) (a : Nat) : Byte := tget zeroInit s.pwr.retMem a

end Sys2Proof.Machine
end

