-- ==== Sys2Proof/Machine/Beam.lean ====
section
/-! DEFINITION. The beam model (R32 to R54): the tables of a table set, warp (R35, R88), composition
(R42 to R44, R46), masks (R48 to R51), offsets (R39, R40), and the content checks of table pours
(R33, R40, R41, R45). -/

namespace Sys2Proof.Machine

open Sys2Proof

/-! ### Offsets in a table set (Table 04-7) -/

/-- Layer records. -/
def offLayers : Nat := 0x2A8
/-- Warp meshes. -/
def offMesh : Nat := 0x328
/-- Transfer curve of plane `p`. -/
def offCurve (p : Nat) : Nat := 0x4838 + p * 0x4000
/-- Overdrive tables. -/
def offOverdrive : Nat := 0x14838
/-- Dither matrix. -/
def offDither : Nat := 0x25898

/-- Offset and size of the table a TABLE_WRITE names (Tables 03-4 and 04-7); `none` for any other ID. -/
def tableOf (id : Nat) : Option (Nat × Nat) :=
  if id = 0x01 then some (0, 32)
  else if id = 0x02 then some (0x20, 128)
  else if id = 0x03 then some (0xA0, 512)
  else if id = 0x04 then some (0x2A0, 8)
  else if 0x10 ≤ id ∧ id ≤ 0x13 then some (offCurve (id - 0x10), 16384)
  else if id = 0x20 then some (offOverdrive, 69728)
  else if id = 0x30 then some (offDither, 8192)
  else none

/-! ### Array regions (Table 02-1) -/

/-- An array region descriptor. -/
structure Region where
  en : Bool
  x0 : Nat
  plane : Nat
  y0 : Nat
  w : Nat
  h : Nat
  rsvd : Bool
deriving DecidableEq, Repr

/-- Region `r` of a table set. -/
def State.region (s : State) (b : Bool) (r : Nat) : Region :=
  let w0 := s.setWord b (r * 8)
  let w1 := s.setWord b (r * 8 + 4)
  { en := bitOf w0 31, x0 := fld w0 16 12, plane := fld w0 14 2, y0 := fld w0 0 10
    w := fld w1 16 16, h := fld w1 0 16, rsvd := fld w0 28 3 ≠ 0 || fld w0 10 4 ≠ 0 }

/-- The region covers a pixel. -/
def Region.has (g : Region) (x y : Nat) : Bool :=
  g.en && decide (g.x0 ≤ x) && decide (x < g.x0 + g.w) && decide (g.y0 ≤ y) && decide (y < g.y0 + g.h)

/-- The enabled region that holds a pixel (R34). -/
def State.regionAt (s : State) (b : Bool) (x y : Nat) : Option (Nat × Region) :=
  ((List.range 4).map (fun r => (r, s.region b r))).find? (fun g => g.2.has x y)

/-- Two regions share a pixel. -/
def Region.meets (g k : Region) : Bool :=
  decide (g.x0 < k.x0 + k.w) && decide (k.x0 < g.x0 + g.w) && decide (g.y0 < k.y0 + k.h) && decide (k.y0 < g.y0 + g.h)

/-- A descriptor passes R33 by itself. -/
def Region.ok (p : Part) (g : Region) : Bool :=
  !g.rsvd && (!g.en ||
    (decide (8 ≤ g.w) && decide (g.w ≤ 4096) && decide (8 ≤ g.h) && decide (g.h ≤ 1024) &&
     g.x0 % 8 == 0 && g.y0 % 8 == 0 && g.w % 8 == 0 && g.h % 8 == 0 &&
     decide (g.x0 + g.w ≤ p.gridW) && decide (g.y0 + g.h ≤ p.gridH)))

/-- The region descriptors of a set pass R33. -/
def State.regionsOk (s : State) (b : Bool) : Bool :=
  let gs := (List.range 4).map (s.region b)
  gs.all (·.ok s.part) &&
  (List.range 4).all (fun i => (List.range 4).all (fun j =>
    decide (j ≤ i) || !(s.region b i).en || !(s.region b j).en || !(s.region b i).meets (s.region b j)))

/-! ### Warp (R35, R88) -/

/-- Mesh node (m, n) of region `r`: (Hn, Vn). -/
def State.node (s : State) (b : Bool) (r m n : Nat) : Int × Int :=
  let w := s.setWord b (offMesh + r * 4420 + (n * 65 + m) * 4)
  (sx 16 (fld w 16 16), sx 16 (fld w 0 16))

/-- One coordinate of the bilinear interpolation in 64 × 64 cells; a node of weight 0 is not read. -/
def warpOf (g : Nat → Nat → Int) (i j : Nat) : Int :=
  let m := i / 64; let fi := i % 64; let n := j / 64; let fj := j % 64
  let at_ (w : Nat) (a c : Nat) : Int := if w = 0 then 0 else w * g a c
  satS 16 (roundEven (at_ ((64 - fi) * (64 - fj)) m n + at_ (fi * (64 - fj)) (m + 1) n
    + at_ ((64 - fi) * fj) m (n + 1) + at_ (fi * fj) (m + 1) (n + 1)) 4096)

/-- Optical coordinates (Ho, Vo) of region-local pixel (i, j). -/
def State.optical (s : State) (b : Bool) (r i j : Nat) : Int × Int :=
  (warpOf (fun m n => (s.node b r m n).1) i j, warpOf (fun m n => (s.node b r m n).2) i j)

/-- Content coordinates (R39), saturated to signed 16-bit. -/
def State.content (s : State) (offsetEn : Bool) (o : Int × Int) : Int × Int :=
  if offsetEn then (satS 16 (o.1 - s.beam.yaw), satS 16 (o.2 - s.beam.pitch)) else o

/-! ### Bilinear texture sampling (R44) -/

/-- The sum s of R44 as a numerator over 65,536. -/
def bilin (a b : Int) (q : Nat) (p : Int × Int) (tap : Int → Int → Nat) : Int :=
  let dh := p.1 - a
  let dv := b - p.2
  let u := dh / q
  let v := dv / q
  let fu := roundEven ((dh - u * q) * 256) q
  let fv := roundEven ((dv - v * q) * 256) q
  (256 - fu) * (256 - fv) * tap u v + fu * (256 - fv) * tap (u + 1) v
    + (256 - fu) * fv * tap u (v + 1) + fu * fv * tap (u + 1) (v + 1)

/-- A tap of a `w` × `h` texture: 0 outside it. -/
def tapOf (w h : Nat) (t : Nat → Nat → Nat) (u v : Int) : Nat :=
  if 0 ≤ u ∧ u < w ∧ 0 ≤ v ∧ v < h then t u.toNat v.toNat else 0

/-! ### Layers, patterns, symbols -/

/-- A layer record (Table 02-3). -/
structure Layer where
  type : Nat
  blend : Nat
  opacity : Nat
  planes : Nat
  offsetEn : Bool
  rsvd : Nat
  src : Word
deriving DecidableEq, Repr

/-- Layer `k` of a table set. -/
def State.layer (s : State) (b : Bool) (k : Nat) : Layer :=
  let w0 := s.setWord b (offLayers + k * 8)
  { type := fld w0 28 4, blend := fld w0 24 4, opacity := fld w0 16 8, planes := fld w0 12 4
    offsetEn := bitOf w0 11, rsvd := fld w0 0 11, src := s.setWord b (offLayers + k * 8 + 4) }

/-- A layer record passes R41. -/
def Layer.ok (l : Layer) : Bool :=
  decide (l.type ≤ 4) && decide (l.blend ≤ 4) && l.rsvd == 0 &&
  (match l.type with
   | 1 => fld l.src 3 29 == 0
   | 3 | 4 => fld l.src 20 12 == 0
   | _ => l.src == 0#32)

/-- A pattern slot descriptor (Table 02-5). -/
structure Pattern where
  w : Nat
  h : Nat
  h0 : Int
  v0 : Int
  pitch : Nat
  base : Nat
  rsvd : Bool
deriving DecidableEq, Repr

/-- Pattern slot `k` of a table set. -/
def State.pattern (s : State) (b : Bool) (k : Nat) : Pattern :=
  let w (i : Nat) := s.setWord b (0x20 + k * 16 + i * 4)
  { w := fld (w 0) 16 16, h := fld (w 0) 0 16, h0 := sx 16 (fld (w 1) 16 16), v0 := sx 16 (fld (w 1) 0 16)
    pitch := fld (w 2) 24 8, base := fld (w 2) 0 10, rsvd := fld (w 2) 10 14 ≠ 0 || w 3 ≠ 0#32 }

/-- A pattern descriptor passes R45. -/
def Pattern.ok (p : Part) (d : Pattern) : Bool :=
  d.w == 0 || (decide (d.w ≤ 2048) && decide (1 ≤ d.h) && decide (d.h ≤ 512) && decide (4 ≤ d.pitch) &&
    decide (d.pitch ≤ 32) && decide (d.base * 4096 + d.w * d.h * 2 ≤ p.patternSize) && !d.rsvd)

/-- A pattern sampled at content coordinates (R44); 0 where the slot is undefined. -/
def State.samplePattern (s : State) (b : Bool) (k : Nat) (c : Int × Int) : Nat :=
  let d := s.pattern b k
  if d.w = 0 then 0
  else
    let tap := tapOf d.w d.h (fun u v => widen16 (s.cruHalf (d.base * 4096 + (v * d.w + u) * 2)))
    sat20 (roundEven (bilin d.h0 d.v0 d.pitch c tap) 65536)

/-- A glyph directory entry (Table 02-6): offset, width and height; `none` where the glyph is undefined
(R46). -/
def State.glyph (s : State) (g : Nat) : Option (Nat × Nat × Nat) :=
  let w0 := s.cruWord (s.part.glyphBase + g * 8)
  let w1 := s.cruWord (s.part.glyphBase + g * 8 + 4)
  let off := fld w0 0 20; let w := fld w1 16 9; let h := fld w1 0 9
  if w = 0 ∨ fld w0 20 12 ≠ 0 ∨ fld w1 25 7 ≠ 0 ∨ fld w1 9 7 ≠ 0 ∨ off < 8192 ∨ 256 < w ∨ 256 < h ∨ h = 0
      ∨ glyphSize < off + w * h then none
  else some (off, w, h)

/-- A symbol placement (Table 02-7). -/
structure Placement where
  h : Int
  v : Int
  glyph : Nat
  layer : Nat
  pitch : Nat
deriving DecidableEq, Repr

/-- Placement `k` of a table set. -/
def State.placement (s : State) (b : Bool) (k : Nat) : Placement :=
  let w0 := s.setWord b (0xA0 + k * 8)
  let w1 := s.setWord b (0xA0 + k * 8 + 4)
  { h := sx 16 (fld w0 16 16), v := sx 16 (fld w0 0 16), glyph := fld w1 22 10, layer := fld w1 18 4
    pitch := fld w1 13 5 }

/-- The coverage sum of a placement at content coordinates, a numerator over 65,536 (R46). -/
def State.coverage (s : State) (p : Placement) (c : Int × Int) : Int :=
  if p.pitch = 0 then 0
  else match s.glyph p.glyph with
    | none => 0
    | some (off, w, h) =>
      bilin p.h p.v p.pitch c (tapOf w h (fun u v => f8 (s.cruByte (s.part.glyphBase + off + v * w + u)).toNat))

/-- A SYMBOL layer's sample: the maximum over the placements that name the layer (Table 02-4). -/
def State.sampleSymbol (s : State) (b : Bool) (k : Nat) (intensity : Nat) (c : Int × Int) : Nat :=
  (List.range 64).foldl (fun m i =>
    let p := s.placement b i
    if p.layer = k then max m (sat20 (roundEven (s.coverage p c * intensity) (65536 * 256))) else m) 0

/-! ### The canvas (R191) -/

/-- The tile-map entry of a tile. -/
def State.mapEntry (s : State) (tile : Nat) : Word :=
  s.cruWord (s.part.tileBase + s.part.slots * 56 + s.part.packed tile * 4)

/-- Rewrite the tile-map entry of a tile. -/
def State.setMapEntry (s : State) (tile : Nat) (v : Word) : State :=
  s.cruPut (s.part.tileBase + s.part.slots * 56 + s.part.packed tile * 4) (leBytes v)

/-- Window offset of pixel `k` of slot `n`. -/
def Part.slotPixel (p : Part) (n k : Nat) : Nat := p.canvasBase + n * 128 + k * 2

/-- The U0.16 code of in-tile pixel `k` of a tile. -/
def State.tilePixel (s : State) (tile k : Nat) : Nat :=
  let e := s.mapEntry tile
  if bitOf e 31 then fld e 0 16 else s.cruHalf (s.part.slotPixel (fld e 0 17) k)

/-- The canvas code of a pixel. -/
def State.canvasAt (s : State) (x y : Nat) : Nat := s.tilePixel (tileOf x y) (y % 8 * 8 + x % 8)

/-! ### Composition (R42) -/

/-- A layer's sample at a pixel with optical coordinates `o` (R43). -/
def State.sampleLayer (s : State) (b : Bool) (k : Nat) (l : Layer) (x y : Nat) (o : Int × Int) : Nat :=
  match l.type with
  | 1 => s.samplePattern b (fld l.src 0 3) (s.content l.offsetEn o)
  | 2 => widen16 (s.canvasAt x y)
  | 3 => s.sampleSymbol b k (fld l.src 0 20) (s.content l.offsetEn o)
  | 4 => fld l.src 0 20
  | _ => 0

/-- The blend f of R42 as a numerator over 2^20, exact. -/
def blendOf (blend dst src : Nat) : Nat :=
  match blend with
  | 1 => max dst src * 2 ^ 20
  | 2 => min dst src * 2 ^ 20
  | 3 => dst * src
  | 4 => min (dst + src) 0xFFFFF * 2 ^ 20
  | _ => src * 2 ^ 20

/-- One layer over `dst`, rounded half to even and saturated. -/
def overLayer (l : Layer) (dst src : Nat) : Nat :=
  let a : Int := f8 l.opacity
  sat20 (roundEven ((dst : Int) * 2 ^ 28 + a * ((blendOf l.blend dst src : Int) - dst * 2 ^ 20)) (2 ^ 28))

/-- The composed value of a pixel in an enabled region (R42). -/
def State.compose (s : State) (b : Bool) (r : Nat) (g : Region) (x y : Nat) : Nat :=
  let o := s.optical b r (x - g.x0) (y - g.y0)
  (List.range 16).foldl (fun dst k =>
    let l := s.layer b k
    if l.type = 0 ∨ l.planes / 2 ^ g.plane % 2 = 0 then dst
    else overLayer l dst (s.sampleLayer b k l x y o)) 0

/-! ### Masks (R48 to R51) -/

/-- A mask record from its six words (Table 02-8), with whether a reserved field is set. -/
def maskOf (w : Nat → Word) : Mask × Bool :=
  ({ verts := (List.range 4).map (fun i => (sx 16 (fld (w i) 16 16), sx 16 (fld (w i) 0 16)))
     depth := fld (w 4) 24 8, soft := fld (w 4) 16 8, ttl := fld (w 4) 0 16, remaining := fld (w 4) 0 16
     valid := bitOf (w 5) 31, offsetEn := bitOf (w 5) 30, ended := false }, fld (w 5) 0 30 ≠ 0)

/-- The edges of a vertex list that do not have zero length: start point and vector (R49). -/
def maskEdges (vs : List (Int × Int)) : List ((Int × Int) × (Int × Int)) :=
  (vs.zip (vs.drop 1 ++ vs.take 1)).filterMap (fun e =>
    let d := (e.2.1 - e.1.1, e.2.2 - e.1.2)
    if d = (0, 0) then none else some (e.1, d))

/-- The cross products of consecutive remaining edges. -/
def maskCrosses (vs : List (Int × Int)) : List Int :=
  let es := (maskEdges vs).map (·.2)
  (es.zip (es.drop 1 ++ es.take 1)).map (fun e => e.1.1 * e.2.2 - e.1.2 * e.2.1)

/-- The vertices form a convex quadrilateral (R49). -/
def convexOk (vs : List (Int × Int)) : Bool :=
  let c := maskCrosses vs
  (c.all (fun v => decide (0 ≤ v)) || c.all (fun v => decide (v ≤ 0))) && c.any (fun v => decide (v ≠ 0))

/-- A record passes R48 and R49. -/
def maskOk (r : Mask × Bool) : Bool := !r.2 && (!r.1.valid || convexOk r.1.verts)

/-- The largest n ≤ `top` with n² × b ≤ a, found bit by bit from bit `k`. -/
def sqrtRatio (a b : Nat) : Nat → Nat → Nat
  | 0, n => n
  | k + 1, n => let c := n + 2 ^ k; sqrtRatio a b k (if c * c * b ≤ a then c else n)

/-- The coverage in 1/256 that one edge gives: 128 + 256 × d ÷ s, clamped and rounded half to even, with
d = cross ÷ |edge| (R50). `cross` is positive on the interior side. -/
def edgeCover (cross len2 : Int) (soft : Nat) : Int :=
  if soft = 0 then (if 0 ≤ cross then 256 else 0)
  else
    let a := (512 * cross.natAbs) ^ 2
    let b := soft ^ 2 * len2.toNat
    if 256 ^ 2 * b ≤ a then (if 0 ≤ cross then 256 else 0)
    else
      let f := sqrtRatio a b 9 0
      let n := if f % 2 = 0 then f / 2 else if f * f * b = a ∧ f / 2 % 2 = 0 then f / 2 else f / 2 + 1
      if 0 ≤ cross then 128 + n else 128 - n

/-- The coverage of a mask at content coordinates, in 1/256: the minimum over its edges (R50). -/
def Mask.cover (m : Mask) (p : Int × Int) : Int :=
  let sgn : Int := if (maskCrosses m.verts).any (fun v => decide (v < 0)) then -1 else 1
  (maskEdges m.verts).foldl (fun c e =>
    let cr := sgn * (e.2.1 * (p.2 - e.1.2) - e.2.2 * (p.1 - e.1.1))
    min c (edgeCover cr (e.2.1 * e.2.1 + e.2.2 * e.2.2) m.soft)) 256

/-- A mask that nothing has written. -/
def Mask.blank (_ : Nat) : Mask :=
  { verts := [], depth := 0, soft := 0, ttl := 0, remaining := 0, valid := false, offsetEn := false, ended := false }

/-- Mask `i` of the live table. -/
def State.mask (s : State) (i : Nat) : Mask := tget Mask.blank s.beam.masks i

/-- Replace mask `i` of the live table. -/
def State.setMask (s : State) (i : Nat) (m : Mask) : State :=
  { s with beam := { s.beam with masks := tset Mask.blank s.beam.masks i m } }

/-- A mask gates: it is valid, and no edge has found its remaining count at 0 (R53). -/
def Mask.inForce (m : Mask) : Bool := m.valid && !m.ended

/-- The mask gate g of a pixel in units of 1/65,536 (R51). Masks the table does not list are invalid. -/
def State.gate (s : State) (o : Int × Int) : Nat :=
  s.beam.masks.foldl (fun g e =>
    if e.2.inForce then
      min g (65536 - ((e.2.cover (s.content e.2.offsetEn o)).toNat * f8 e.2.depth)) else g) 65536

/-- The edge step of one mask (R53): at 0 remaining it gates no more, else it counts down. -/
def Mask.age (m : Mask) : Mask :=
  if !m.valid || m.ttl == 0 then m
  else if m.remaining = 0 then { m with ended := true } else { m with remaining := m.remaining - 1 }

/-- Every mask ages at a frame-start edge (R53). -/
def State.ageMasks (s : State) : State :=
  s.beam.masks.foldl (fun s e => s.setMask e.1 (s.mask e.1).age) s

/-! ### Levelling offsets (R40) -/

/-- Targets and slew limits of a table set: pitch, yaw, slew of pitch, slew of yaw. -/
def State.targets (s : State) (b : Bool) : Int × Int × Nat × Nat :=
  let w0 := s.setWord b 0x2A0
  let w1 := s.setWord b 0x2A4
  (sx 16 (fld w0 16 16), sx 16 (fld w0 0 16), fld w1 8 8, fld w1 0 8)

/-- The targets lie in the ranges of Table 02-2. -/
def State.targetsOk (s : State) (b : Bool) : Bool :=
  let t := s.targets b
  decide (t.1.natAbs ≤ 768) && decide (t.2.1.natAbs ≤ 3840)

/-- One slew step towards a target; a limit of 0 is unlimited. -/
def slewTo (cur target : Int) (lim : Nat) : Int :=
  if lim = 0 then target else cur + max (-(lim : Int)) (min (lim : Int) (target - cur))

/-- The slew step of an edge, with the set now active (R40). -/
def State.slewOffsets (s : State) : State :=
  let t := s.targets s.beam.setB
  { s with beam := { s.beam with pitch := slewTo s.beam.pitch t.1 t.2.2.1, yaw := slewTo s.beam.yaw t.2.1 t.2.2.2 } }

/-! ### Content in use (R47) -/

/-- Two byte ranges share a byte; an empty range shares none. -/
def overlap (a n b m : Nat) : Bool := decide (0 < n) && decide (0 < m) && decide (a < b + m) && decide (b < a + n)

/-- A pattern-area range is used by an enabled PATTERN layer of the set in force. -/
def State.patternInUse (s : State) (off len : Nat) : Bool :=
  (List.range 16).any (fun k =>
    let l := s.layer s.beam.setB k
    l.type == 1 && (let d := s.pattern s.beam.setB (fld l.src 0 3)
      d.w != 0 && overlap off len (d.base * 4096) (d.w * d.h * 2)))

/-- A glyph-store range is used by a used placement of an enabled SYMBOL layer of the set in force: the
glyph's directory entry or its texels. -/
def State.glyphInUse (s : State) (off len : Nat) : Bool :=
  (List.range 64).any (fun i =>
    let p := s.placement s.beam.setB i
    p.pitch != 0 && (s.layer s.beam.setB p.layer).type == 3 &&
    (overlap off len (p.glyph * 8) 8 ||
      (match s.glyph p.glyph with
       | none => false
       | some (o, w, h) => overlap off len o (w * h))))

/-! ### Scan counts (R85, R86) -/

/-- The 16-pixel groups of row `y`. -/
def State.rowGroups (s : State) (b : Bool) (y : Nat) : Nat :=
  ((List.range 4).map (fun r =>
    let g := s.region b r
    if g.en && decide (g.y0 ≤ y) && decide (y < g.y0 + g.h) then ceilDiv g.w 16 else 0)).sum

/-- The pipeline clocks of row `y`. -/
def State.rowClocks (s : State) (b : Bool) (y : Nat) : Nat := ceilDiv (s.rowGroups b y * 10) 9

/-- C_scan: the clocks of all rows. Regions are tile-aligned, so the rows of a tile row count alike. -/
def State.cScan (s : State) (b : Bool) : Nat :=
  ((List.range 128).map (fun t => s.rowClocks b (t * 8) * 8)).sum

/-- C_lat: the clocks of the widest row plus 160. -/
def State.cLat (s : State) (b : Bool) : Nat :=
  (List.range 128).foldl (fun m t => max m (s.rowClocks b (t * 8))) 0 + 160

/-- Pipeline clock of an operating point in MHz (Table 12-6). -/
def opMhz : Nat → Nat
  | 0 => 250 | 1 => 400 | 2 => 500 | _ => 600

/-- A period in ns is admissible for the regions of a set at an operating point (R86). -/
def State.admissible (s : State) (b : Bool) (period op : Nat) : Bool :=
  decide ((s.cScan b + s.cLat b) * 1000 ≤ period * opMhz op)

end Sys2Proof.Machine
end

