-- ==== Sys2Proof/Machine/Slices.lean ====
section
/-! DEFINITION. Slice and pair descriptors (R137), lane load (R138), the pair envelope (R139) and packing
sizes (Table 04-5): pure arithmetic on the register file. -/

namespace Sys2Proof.Machine

open Sys2Proof

/-- A slice descriptor (LNK_SLICE0, LNK_SLICE1). -/
structure SliceD where
  en : Bool
  paired : Bool
  depth : Nat
  x0 : Nat
  lane : Nat
  y0 : Nat
  w : Nat
  h : Nat
deriving DecidableEq, Repr

/-- Slice descriptor `i` as a register view `g` shows it (the registers, or their frame-latched copy). -/
def sliceOf (g : Nat → Word) (i : Nat) : SliceD :=
  let a := g (aOf.lnkSlice0 i)
  let b := g (aOf.lnkSlice1 i)
  { en := bitOf a 31, paired := bitOf a 30, depth := fld a 28 2, x0 := fld a 16 12, lane := fld a 10 6
    y0 := fld a 0 10, w := fld b 16 13, h := fld b 0 11 }

/-- A frame is in S1: its rows are not all scanned. -/
def State.scanning (s : State) : Bool := s.pipe.active && decide (s.pipe.nextRow < s.part.gridH)

/-- The view of the frame in force: the frame-latched copy while edges run or a frame is still in S1 (R19, R20), else the
registers. -/
def State.view (s : State) : Nat → Word := if s.time.running || s.scanning then s.latched else s.rd

/-- The slice's first lane. -/
def SliceD.first (d : SliceD) : Nat := if d.paired then d.lane / 2 * 2 else d.lane

/-- The lanes a slice names. -/
def SliceD.lanes (d : SliceD) : List Nat :=
  if d.paired then [d.lane / 2 * 2, d.lane / 2 * 2 + 1] else [d.lane]

/-- Code depth in bits of a DEPTH code. -/
def depthBits : Nat → Nat
  | 0 => 10 | 1 => 12 | 2 => 14 | _ => 16

/-- Codes per data block (Table 04-5). -/
def codesPerBlock : Nat → Nat
  | 0 => 6 | 1 => 5 | _ => 4

/-- Data blocks of a slice line (R104). -/
def SliceD.blocks (d : SliceD) : Nat := ceilDiv d.w (codesPerBlock d.depth)

/-- The slice names row `y`. -/
def SliceD.hasRow (d : SliceD) (y : Nat) : Bool := d.en && decide (d.y0 ≤ y) && decide (y < d.y0 + d.h)

/-- The cause that keeps an enabled slice ABSENT by its map: 7 for an absent lane, 6 for a lane that a
lower-numbered slice keeps, 0 for none (R137). -/
def mapCause (g : Nat → Word) (p : Part) (i : Nat) : Nat :=
  let d := sliceOf g i
  if d.lanes.any (fun n => decide (p.lanes ≤ n)) then 7
  else if (List.range i).any (fun j =>
    let k := sliceOf g j
    k.en && k.lanes.any (fun n => d.lanes.contains n)) then 6
  else 0

/-- The slice that uses lane `n`: the lowest-numbered enabled one that names it, on a present lane. -/
def sliceOnLane (g : Nat → Word) (p : Part) (n : Nat) : Option Nat :=
  (List.range 64).find? (fun i =>
    let d := sliceOf g i
    d.en && d.lanes.contains n && mapCause g p i == 0)

/-- The rate code of a lane; 3 acts as 0. -/
def rateCode (g : Nat → Word) (n : Nat) : Nat :=
  let r := fld (g (aOf.laneCtrl n)) 0 2
  if r = 3 then 0 else r

/-- The block time of a rate code in units of 1/8 ns (Table 06-1). -/
def blockEighths (r : Nat) : Nat := 165 * 2 ^ r

/-- The share of a line's blocks a lane sends, with its SOL and END (R130): split 0 all, 1 even, 2 odd. -/
def laneBlocks (d : SliceD) (split : Nat) : Nat :=
  2 + (match split with | 0 => d.blocks | 1 => ceilDiv d.blocks 2 | _ => d.blocks / 2)

/-- Whether any exposure-window descriptor is on, as R138's nexp counts them (assumption 7). -/
def nexp (g : Nat → Word) : Nat :=
  ((List.range 8).filter (fun w => let m := fld (g (aOf.timeEw0 w)) 30 2; m == 1 || m == 2)).length

/-- The check of R138 for one lane that carries slice `d` with `split`, exactly: the backlog is kept in
units of 1/D block with D = f × block time. `b` names the table set whose regions count. -/
def State.laneLoadOk (s : State) (g : Nat → Word) (b : Bool) (d : SliceD) (split period op rate : Nat) : Bool :=
  let f := opMhz op
  let den : Int := f * blockEighths rate
  let rows := List.range 1024
  let r := rows.foldl (fun (a : Int × Bool) y =>
    let n : Int := if d.hasRow y then laneBlocks d split else 0
    let q := max (a.1 + n * den - (s.rowClocks b y * 8000 : Nat)) 0
    (q, a.2 && decide (q ≤ 2048 * den))) (((2 + nexp g : Nat) : Int) * den, true)
  r.2 && decide (r.1 ≤ (8 * f * period : Nat) - ((s.cScan b + s.cLat b) * 8000 : Nat))

/-- Every lane that carries an enabled slice passes R138 in its normal carriage. -/
def State.lanesOk (s : State) (g : Nat → Word) (b : Bool) (period op : Nat) : Bool :=
  (List.range 64).all (fun i =>
    let d := sliceOf g i
    !d.en || mapCause g s.part i != 0 ||
      (if d.paired then
        s.laneLoadOk g b d 1 period op (rateCode g d.first) && s.laneLoadOk g b d 2 period op (rateCode g (d.first + 1))
       else s.laneLoadOk g b d 0 period op (rateCode g d.lane)))

/-- Pair `k`'s check of R138 with all its blocks on one lane. -/
def State.pairOk (s : State) (g : Nat → Word) (b : Bool) (k period op : Nat) : Bool :=
  match sliceOnLane g s.part (2 * k) with
  | none => true
  | some i => s.laneLoadOk g b (sliceOf g i) 0 period op (rateCode g (2 * k))

/-- FIT of a slice at a period in ns and rate code (R139). -/
def fitOk (d : SliceD) (period rate : Nat) : Bool :=
  decide (d.w * d.h * 103 * 1000000000 * 66 ≤ 3200000000 / 2 ^ rate * codesPerBlock d.depth * 100 * period)

/-- The period in force: that of the frame in S1, if there is one, while a new one waits for its edge. -/
def State.periodInForce (s : State) : Nat :=
  if s.time.pendPeriod.isSome && s.pipe.tag.period != 0 then s.pipe.tag.period
  else min (max (s.f aOf.timePeriod 0 25) 260000) 20000000

/-- The operating point in force. -/
def State.op (s : State) : Nat := s.f aOf.pwrState 4 2

end Sys2Proof.Machine
end

