-- ==== Sys2Proof/Machine/Time.lean ====
section
/-! DEFINITION. The time base (R170 to R176, R181 to R186): advancing, setting and slewing TIME_NS, frame
edges, transmit stamps, SYNC pins and exposure windows, and the commands of that family. -/

namespace Sys2Proof.Machine

open Sys2Proof

/-! ### Access guard -/

/-- What an access to the register block of address `a` meets: nothing at all while the device is held,
no effect in an absent unit's block (R5), bus error DOMAIN_OFF where the domain is not ON (R30), else `f`. -/
def State.access (s : State) (a : Nat) (f : State → State) : State :=
  if s.alive then
    match blockOf s.part a with
    | none => s.emit .busError
    | some (d, absent) => if absent || absentReg s.part a then s else if s.domOn d then f s else s.emit .domainOff
  else s

/-- The same for a read, which answers 0 in an absent unit's block (R5). -/
def State.accessRead (s : State) (a : Nat) (f : State → State) : State :=
  if s.alive then
    match blockOf s.part a with
    | none => s.emit .busError
    | some (d, absent) => if absent || absentReg s.part a then s.emit (.data 0#32) else if s.domOn d then f s else s.emit .domainOff
  else s

/-! ### The increment (R170) -/

/-- TIME_RATEC as a number; −256 acts as −255. -/
def State.ratec (s : State) : Int := max (sx 9 (s.rd aOf.timeRatec).toNat) (-255)

/-- TIME_RATE as a number. -/
def State.rate (s : State) : Int := sx 32 (s.rd aOf.timeRate).toNat

/-- The slew rate s of R173 in ppm: SLEW clamped to 1 to 500, at most 100 when capped. -/
def State.slewPpm (s : State) : Nat :=
  let v := min (max (s.f aOf.timeCtrl 0 10) 1) 500
  if s.time.capped then min v 100 else v

/-- One cycle's increment in units of 2^-48 ns, with a slew of `ppm`. -/
def State.incOf (s : State) (ppm : Int) : Int :=
  2 ^ 49 + roundEven (2 ^ 33 * (s.ratec * 65536000 + s.rate + ppm * 65536000)) 1000000000

/-- What the slew adds to one cycle's increment, signed as the remaining offset (R173). -/
def State.slewStep (s : State) : Int :=
  if s.time.adjRem = 0 then 0
  else if s.time.adjRem < 0 then s.incOf (-(s.slewPpm : Int)) - s.incOf 0
  else s.incOf (s.slewPpm : Int) - s.incOf 0

/-- How much of the remaining offset `n` cycles absorb. -/
def State.absorbed (s : State) (n : Nat) : Int :=
  if n * s.slewStep.natAbs < s.time.adjRem.natAbs then (n : Int) * s.slewStep else s.time.adjRem

/-- {TIME_NS, TIME_FRAC, residue} as one number in units of 2^-48 ns. -/
def TimeBase.now48 (t : TimeBase) : Nat := t.ns.toNat * 2 ^ 48 + t.frac.toNat * 2 ^ 16 + t.res.toNat

/-- The time base at a point of its 2^-48 ns scale, wraps counted (R171). -/
def TimeBase.at48 (t : TimeBase) (v : Nat) : TimeBase :=
  { t with ns := BitVec.ofNat 32 (v / 2 ^ 48), frac := BitVec.ofNat 32 (v / 2 ^ 16), res := BitVec.ofNat 16 v
           wrap := t.wrap + BitVec.ofNat 32 (v / 2 ^ 80) }

/-- Seconds advance with the cycles: PWR_PWRSEC outside OFF, PWR_LITSEC in LIT and BURST. -/
def State.passSeconds (s : State) (n : Nat) : State :=
  let t := s.pwr.subsec + n
  let secs := t / 500000000
  let s := { s with pwr := { s.pwr with subsec := t % 500000000 } }
  if secs = 0 then s
  else
    let s := s.wr aOf.pwrPwrsec (s.rd aOf.pwrPwrsec + BitVec.ofNat 32 secs)
    let dev := s.f aOf.pwrState 0 3
    s.when (dev == 3 || dev == 4) (fun s => s.wr aOf.pwrLitsec (s.rd aOf.pwrLitsec + BitVec.ofNat 32 secs))

/-- `n` cycles of the 500 MHz time base pass (R170, R173). -/
def State.advance (s : State) (n : Nat) : State :=
  let used := s.absorbed n
  let rem := s.time.adjRem - used
  let v := (s.time.now48 : Int) + n * s.incOf 0 + used
  let t := s.time.at48 v.toNat
  ({ s with time := { t with adjRem := rem, capped := s.time.capped && decide (rem ≠ 0) } }).passSeconds n

/-- The number of cycles after which the time base has moved on by at least `d` units of 2^-48 ns: while an adjustment runs
each cycle adds the slew step, and afterwards the whole remainder has been added. -/
def State.cyclesFor (s : State) (d : Int) : Nat :=
  let up (a b : Int) : Nat := ((a + b - 1) / b).toNat
  let slewing := up d (s.incOf 0 + s.slewStep)
  let after := up (d - s.time.adjRem) (s.incOf 0)
  if 0 ≤ s.time.adjRem then max slewing after else min slewing after

/-- Time passes until `te` is due (R175): to the first cycle for which due(te, TIME_NS) holds. -/
def State.advanceTo (s : State) (te : Word) : State :=
  if dueAt te s.time.ns then s
  else
    let target : Int := (s.time.ns.toNat + (te - s.time.ns).toNat : Nat) * 2 ^ 48
    s.advance (s.cyclesFor (target - s.time.now48))

/-- One idle cycle (assumption 6): the time base counts while PD_CTRL is ON or draining (R268), the AON clock always. -/
def State.tick (s : State) : State :=
  if s.alive then if s.domLive pdCtrl then s.advance 1 else s.passSeconds 1 else s

/-! ### Setting and slewing (R171 to R173) -/

/-- The instants the model keeps for elapsed times move with a clock that is set; none below 0. -/
def State.shiftInstants (s : State) (d : Int) : State :=
  let sh (n : Nat) : Nat := (n + d).toNat
  let slices := s.link.slices.map (fun e => (e.1, { e.2 with temp := e.2.temp.map (fun t => (t.1, sh t.2)) }))
  { s with
      cal := { s.cal with ntcSeen := s.cal.ntcSeen.map (fun e => (e.1, sh (e.2 - 1) + 1)) }
      link := { s.link with slices := slices }
      cpu := { s.cpu with kick0 := sh s.cpu.kick0, kick1 := sh s.cpu.kick1 }
      fw := { s.fw with
        lastPourNs := sh s.fw.lastPourNs, silenceFrom := sh s.fw.silenceFrom
        fade := s.fw.fade.map (fun f => { f with t0 := sh f.t0 })
        servo := { s.fw.servo with lastSyncNs := sh s.fw.servo.lastSyncNs, syncStamp := none } } }

/-- A write to TIME_SET; firmware adjusts `base_ns`, so that its extended time stands (R172). -/
def State.timeSetOp (s : State) (v : Word) : State :=
  if s.bit aOf.timeFctrl 0 then s.raise 67
  else
    let old := s.extNs
    let s := { s with time := { s.time with ns := v, frac := 0#32 } }
    let d : Int := (s.extNs : Int) - old
    let s := s.shiftInstants d
    s.when s.fwRuns (fun s => { s with fw := { s.fw with servo := { s.fw.servo with baseNs := s.fw.servo.baseNs - d } } })

/-- A write to TIME_ADJ. -/
def State.timeAdjOp (s : State) (v : Word) : State :=
  let o := sx 32 v.toNat
  let big := decide (s.f aOf.timeStepthr 0 24 < o.natAbs)
  let s := { s with time := { s.time with adjRem := o * 2 ^ 48, capped := big } }
  s.when big (·.raiseD 66 v)

/-- A read of TIME_NS latches TIME_FRAC and TIME_WRAP. -/
def State.timeNsOp (s : State) : State :=
  ({ s with time := { s.time with latFrac := s.time.frac, latWrap := s.time.wrap } }).emit (.data s.time.ns)

/-- TIME_ADJREM: the offset still to slew in ns. -/
def State.adjremView (s : State) : Word := BitVec.ofInt 32 (roundEven s.time.adjRem (2 ^ 48))

/-! ### Frame edges (R181, R182) -/

/-- A period clamped to 260,000 to 20,000,000 ns. -/
def clampPeriod (p : Nat) : Nat := min (max p 260000) 20000000

/-- The frame period TIME_PERIOD asks for. -/
def State.periodNs (s : State) : Nat := clampPeriod (s.f aOf.timePeriod 0 25)

/-- te(k) = (TIME_EPOCH + k × TIME_PERIOD) mod 2^32. -/
def State.teOf (s : State) (k : Nat) : Word := s.rd aOf.timeEpoch + BitVec.ofNat 32 (k * s.periodNs)

/-- How many frames past TIME_FSTART the first frame lies whose te is at least 20 µs ahead. -/
def State.firstSkip (s : State) : Nat :=
  let d := sx 32 (s.teOf (s.rd aOf.timeFstart).toNat - s.time.ns).toNat
  if 20000 ≤ d then 0 else ((20000 - d + s.periodNs - 1) / s.periodNs).toNat

/-- TIME_FCTRL EN goes from 0 to 1. -/
def State.edgesOn (s : State) : State :=
  if s.bit aOf.timeFctrl 0 then s
  else
    let j := s.firstSkip
    let k := s.rd aOf.timeFstart + BitVec.ofNat 32 j
    let te := s.teOf (s.rd aOf.timeFstart).toNat + BitVec.ofNat 32 (j * s.periodNs)
    let s := s.setBit aOf.timeFctrl 0 true
    let s := { s with time := { s.time with running := true, nextK := k, nextTe := te, pendPeriod := none, pendTemper := false } }
    s.when (decide (0 < j)) (fun s => (s.setBit aOf.timeFctrl 31 true).raise 70)

/-- The period of a Temper step in ns (its registers hold 10 ns units). -/
def State.stepNs (s : State) (t : TemperStep) : Nat :=
  (if t.shed then s.f aOf.tmpShed 0 21 else s.f aOf.tmpFallback 0 21) * 10

/-- A Temper step made while no edges run loads its period at once (R182). -/
def State.loadStep (s : State) : State :=
  match s.temper.step with
  | some t =>
    if s.bit aOf.timeFctrl 0 then s
    else ({ s with temper := { s.temper with step := some { t with loaded := true } } }).setF aOf.timePeriod 0 25 (s.stepNs t)
  | none => s

/-- A firmware write to TIME_PERIOD gives way to a Temper step's period: PDISC and event 71. -/
def State.periodLost (s : State) : State := (s.setBit aOf.timeFctrl 30 true).raise 71

/-- TIME_FCTRL EN goes to 0: edges stop, and a waiting Temper step's period is loaded in that cycle, in place of a firmware
write that waits. -/
def State.edgesOff (s : State) : State :=
  if s.bit aOf.timeFctrl 0 then
    let clash := s.temper.step.isSome && s.time.pendPeriod.isSome && !s.time.pendTemper
    let s := (s.setBit aOf.timeFctrl 0 false).when clash (·.periodLost)
    ({ s with time := { s.time with running := false, pendPeriod := none, pendTemper := false } }).loadStep
  else s

/-- A firmware write to TIME_PERIOD: at once while EN = 0, else from the next edge, unless a Temper step's period takes effect
there. -/
def State.periodOp (s : State) (v : Word) : State :=
  let running := s.bit aOf.timeFctrl 0
  if running && s.time.pendTemper then s.periodLost
  else
    let s := s.setF aOf.timePeriod 0 25 v.toNat
    s.when running (fun s => { s with time := { s.time with pendPeriod := some (fld v 0 25) } })

/-! ### Transmit stamps (R178, R179) -/

/-- The queue of a port. -/
def State.txq (s : State) : Port → List TxStamp
  | .p0 => s.time.txq0
  | .p1 => s.time.txq1

/-- Replace the queue of a port. -/
def State.setTxq (s : State) (p : Port) (q : List TxStamp) : State :=
  match p with
  | .p0 => { s with time := { s.time with txq0 := q } }
  | .p1 => { s with time := { s.time with txq1 := q } }

/-- A transmit stamp arrives: queued, or dropped on a full queue of 16. -/
def State.txStamp (s : State) (p : Port) (t : GptpTag) : State :=
  let v := s.macStamp + BitVec.ofNat 40 (s.f (aOf.timeLat p.idx) 16 16 * 256)
  let e : TxStamp := ⟨stampNs v, v.setWidth 8, t.messageType ++ t.seqId⟩
  let s := s.drawn
  if (s.txq p).length < 16 then s.setTxq p (s.txq p ++ [e])
  else (s.bump (aOf.timeTxq2 p.idx) 16 12 1).raise (64 + p.idx)

/-- Removal of the oldest stamp; no effect when empty. -/
def State.txqPopOp (s : State) (p : Port) : State := s.setTxq p ((s.txq p).drop 1)

/-- TIME_TXQ0(p): the oldest entry's fraction and tag. -/
def State.txq0View (s : State) (p : Port) : Word :=
  match s.txq p with
  | [] => 0#32
  | e :: _ => BitVec.ofNat 32 (2 ^ 31 + e.frac.toNat * 65536 + e.tag.toNat)

/-- TIME_TXQ1(p): the oldest entry's ns. -/
def State.txq1View (s : State) (p : Port) : Word :=
  match s.txq p with
  | [] => 0#32
  | e :: _ => e.ns

/-- TIME_TXQ2(p): OVF and the number of entries held. -/
def State.txq2View (s : State) (p : Port) : Word := setFld (s.rd (aOf.timeTxq2 p.idx)) 0 5 (s.txq p).length

/-! ### Exposure windows (R184 to R186) -/

/-- A register of the window descriptors as it stood at the last edge (R184). -/
def State.ewAt (s : State) (a : Nat) : Word := tget (resetValue s.part) s.time.ewRegs a

/-- The window descriptors are latched at an edge. -/
def State.latchEw (s : State) : State :=
  { s with time := { s.time with ewRegs := s.regs.filter (fun e => decide (aOf.timeEw0 0 ≤ e.1) && decide (e.1 < aOf.timeEw0 8)) } }

/-- The tolerance of descriptor `w` in ns, as latched at the frame edge; 0 acts as 1 µs. -/
def State.ewTol (s : State) (w : Nat) : Nat := max (fld (s.ewAt (aOf.timeEw0 w)) 16 8) 1 * 1000

/-- Whether two intervals differ by no more than a tolerance. -/
def within (a b tol : Nat) : Bool := decide (a ≤ b + tol) && decide (b ≤ a + tol)

/-- A selected edge stamped `t` reaches mode-2 descriptor `w` (R185). -/
def State.ewEdge (s : State) (w : Nat) (t : Word) : State :=
  let l := tget (fun _ => (⟨[], 0#32⟩ : EwLock)) s.time.ews w
  let put (s : State) (l : EwLock) : State :=
    { s with time := { s.time with ews := tset (fun _ => (⟨[], 0#32⟩ : EwLock)) s.time.ews w l } }
  if s.bit (aOf.timeEw3 w) 31 then
    let i := s.f (aOf.timeEw3 w) 0 30
    let d := (t - l.e).toNat
    if within d i (s.ewTol w) then (put s ⟨[], t⟩).setF (aOf.timeEw3 w) 0 30 d
    else
      let s := put s ⟨[t], 0#32⟩
      ((s.setBit (aOf.timeEw3 w) 31 false).setBit (aOf.timeEw3 w) 30 true).raise 68
  else
    match l.edges with
    | b :: a :: _ =>
      let d := (t - b).toNat
      if within d (b - a).toNat (s.ewTol w) then
        ((put s ⟨[], t⟩).setBit (aOf.timeEw3 w) 31 true).setF (aOf.timeEw3 w) 0 30 d
      else put s ⟨[t, b], 0#32⟩
    | es => put s ⟨t :: es, 0#32⟩

/-- One occurrence relative to te: its window, start and end in ns. -/
abbrev Occ := Nat × Int × Int

/-- The first occurrences (at most nine) of a series `d + j × per` of length `len` that overlap [0, p),
from j ≥ `lo` where a bound is given. -/
def occsOf (w : Nat) (d per len p : Int) (lo : Option Int) : List Occ :=
  let j0 := if per = 0 then 0 else (-len - d) / per + 1
  let j0 := match lo with | some b => max j0 b | none => j0
  ((List.range (if per = 0 then 1 else 9)).map (fun (i : Nat) => d + (j0 + i) * per)).filterMap (fun o =>
    if o < p ∧ 0 < o + len then some (w, o, o + len) else none)

/-- The occurrences of descriptor `w` that overlap the frame [te, te + p) (R184, R186). -/
def State.ewOccs (s : State) (te : Word) (p w : Nat) : List Occ :=
  let r0 := s.ewAt (aOf.timeEw0 w)
  let len : Int := fld r0 0 16 * 500
  let st := s.ewAt (aOf.timeEw1 w)
  match fld r0 30 2 with
  | 1 => occsOf w (sx 32 (st - te).toNat) ((s.ewAt (aOf.timeEw2 w)).toNat) len p none
  | 2 =>
    if s.bit (aOf.timeEw3 w) 31 then
      let l := tget (fun _ => (⟨[], 0#32⟩ : EwLock)) s.time.ews w
      let i : Nat := s.f (aOf.timeEw3 w) 0 30
      let d := sx 32 (l.e - te).toNat + sx 32 st.toNat
      occsOf w d i len p (some 0)
    else []
  | _ => []

/-- An EXPWIN tag before encoding: window, start and length in 0.5 µs units. -/
structure EwTag where
  w : Nat
  start : Nat
  len : Nat
deriving DecidableEq, Repr

/-- The tag of an occurrence (R186). -/
def ewTagOf (p : Nat) (o : Occ) : EwTag :=
  let st := (max o.2.1 0).toNat / 500
  let en := ceilDiv (min o.2.2 p).toNat 500
  ⟨o.1, st, en - st⟩

/-- Insert a tag in ascending start, window number on equal start. -/
def ewInsert (t : EwTag) : List EwTag → List EwTag
  | [] => [t]
  | u :: r => if t.start < u.start ∨ (t.start = u.start ∧ t.w < u.w) then t :: u :: r else u :: ewInsert t r

/-- Every tag of the frame, sorted, before the limit of 8. -/
def State.ewTags (s : State) (te : Word) (p : Nat) : List EwTag :=
  ((List.range 8).flatMap (fun w => s.ewOccs te p w)).foldl (fun l o => ewInsert (ewTagOf p o) l) []

/-- EWO: an occurrence covers te. -/
def State.ewCovers (s : State) (te : Word) (p : Nat) : Bool :=
  (List.range 8).any (fun w => (s.ewOccs te p w).any (fun o => decide (o.2.1 ≤ 0) && decide (0 < o.2.2)))

/-! ### Commands -/

/-- TIME_SET (R172). -/
def execTimeSet (v : Word) (s : State) : Res := done (s.begin.access aOf.timeSet (·.timeSetOp v))

/-- TIME_ADJ (R173). -/
def execTimeAdj (v : Word) (s : State) : Res := done (s.begin.access aOf.timeAdj (·.timeAdjOp v))

/-- ADJUST_END (R173): time passes until the remaining adjustment is 0. -/
def execAdjustEnd (s : State) : Res :=
  let s := s.begin
  done (s.when (s.alive && s.domLive pdCtrl && decide (s.time.adjRem ≠ 0)) (fun s =>
    s.advance (ceilDiv s.time.adjRem.natAbs s.slewStep.natAbs)))

/-- TIME_NS_READ (R171). -/
def execTimeNsRead (s : State) : Res := done (s.begin.accessRead aOf.timeNs (·.timeNsOp))

/-- TIME_NS_WRAP (R171): time passes to the wrap of TIME_NS. -/
def execTimeNsWrap (s : State) : Res :=
  let s := s.begin
  done (s.when (s.alive && s.domLive pdCtrl) (fun s => s.advance (s.cyclesFor (2 ^ 80 - (s.time.now48 : Int)))))

/-- FRAME_EDGES_ENABLE (R181). -/
def execFrameEdgesEnable (s : State) : Res := done (s.begin.access aOf.timeFctrl (·.edgesOn))

/-- FRAME_EDGES_DISABLE (R182). -/
def execFrameEdgesDisable (s : State) : Res := done (s.begin.access aOf.timeFctrl (·.edgesOff))

/-- PERIOD_WRITE (R182). -/
def execPeriodWrite (v : Word) (s : State) : Res := done (s.begin.access aOf.timePeriod (·.periodOp v))

/-- TXQ_POP (R179). -/
def execTxqPop (p : Port) (s : State) : Res :=
  done (s.begin.access (aOf.timeTxq2 p.idx) (fun s => s.when (s.part.hasPort p) (·.txqPopOp p)))

/-- SYNC_PIN_EDGE (R185): a selected edge is stamped and reaches every mode-2 descriptor of its pin. -/
def execSyncPinEdge (i : Fin 4) (rising : Bool) (s : State) : Res :=
  let s := s.begin
  let sel := s.f aOf.timeSynccfg (2 * i.val) 2
  let taken := sel == 3 || (sel == 1 && rising) || (sel == 2 && !rising)
  done (s.when (s.alive && s.domLive pdCtrl && taken) (fun s =>
    let t := s.stampOf false
    let s := (s.wr (aOf.timeSync i.val) t).drawn
    (List.range 8).foldl (fun s w =>
      s.when (fld (s.ewAt (aOf.timeEw0 w)) 30 2 == 2 && fld (s.ewAt (aOf.timeEw0 w)) 28 2 == i.val) (·.ewEdge w t)) s))

end Sys2Proof.Machine
end

