-- ==== Sys2Proof/Machine/Link.lean ====
section
/-! DEFINITION. The Ouvica driver link (R125 to R156): lane and slice states, training, failover, identity
and calibration load, management blocks, read-back, alarms, and the commands of that family. -/

namespace Sys2Proof.Machine

open Sys2Proof

/-- The IDL block (Table 06-2). -/
def idlBlock : BitVec 64 := 0x1E#64

/-! ### Lanes -/

/-- Lane `n` outside its registers. -/
def State.lane (s : State) (n : Nat) : Lane := tget (fun _ => Lane.reset) s.link.lanes n

/-- Replace lane `n`. -/
def State.setLane (s : State) (n : Nat) (l : Lane) : State :=
  { s with link := { s.link with lanes := tset (fun _ => Lane.reset) s.link.lanes n l } }

/-- Slice `i` outside its registers. -/
def State.slice (s : State) (i : Nat) : Slice := tget (fun _ => Slice.reset) s.link.slices i

/-- Replace slice `i`. -/
def State.setSlice (s : State) (i : Nat) (l : Slice) : State :=
  { s with link := { s.link with slices := tset (fun _ => Slice.reset) s.link.slices i l } }

/-- LNKn_STAT STATE (Table 06-9). -/
def State.laneState (s : State) (n : Nat) : Nat := s.f (aOf.laneStat n) 0 3

/-- Table 06-9. -/
def lnOff : Nat := 0
/-- Table 06-9. -/
def lnDetect : Nat := 1
/-- Table 06-9. -/
def lnTrain : Nat := 2
/-- Table 06-9. -/
def lnUp : Nat := 3
/-- Table 06-9. -/
def lnTest : Nat := 4
/-- Table 06-9. -/
def lnIdle : Nat := 5
/-- Table 06-9. -/
def lnFailed : Nat := 6

/-- Table 06-7. -/
def slAbsent : Nat := 0
/-- Table 06-7. -/
def slTraining : Nat := 1
/-- Table 06-7. -/
def slIdent : Nat := 2
/-- Table 06-7. -/
def slLoading : Nat := 3
/-- Table 06-7. -/
def slReady : Nat := 4
/-- Table 06-7. -/
def slLit : Nat := 5
/-- Table 06-7. -/
def slDegraded : Nat := 6

/-- The link's lane `n` can act: it is present and its domain is ON, with the device running. -/
def State.laneAlive (s : State) (n : Nat) : Bool := s.alive && s.domOn pdPipe && s.laneOn n

/-- Lane `n` loses what it had trained. -/
def State.untrain (s : State) (n : Nat) : State := s.setLane n (s.lane n).fresh

/-- Forward lane `n` sends one block: its payload leaves scrambled, with the bits of `flip` inverted on the line (R126, R152).
The IDL blocks between commands leave the model's scrambler as it is (DESIGN CHOICE, assumption 102). -/
def State.sendFlipped (s : State) (n : Nat) (control : Bool) (payload flip : BitVec 64) : State :=
  let p := scramble (s.lane n).txHist payload
  (s.setLane n { s.lane n with txHist := lineHistory p }).emit (.block n control (p ^^^ flip))

/-- Forward lane `n` sends one block. -/
def State.sendBlock (s : State) (n : Nat) (control : Bool) (payload : BitVec 64) : State :=
  s.sendFlipped n control payload 0#64

/-- A lane changes state, with event 512 + n (R155). -/
def State.toLane (s : State) (n st : Nat) : State :=
  if s.laneState n = st then s else (s.setF (aOf.laneStat n) 0 3 st).raise (512 + n)

/-- The slice descriptor in force. -/
def State.sd (s : State) (i : Nat) : SliceD := sliceOf s.view i

/-- The slice on lane `n` in force. -/
def State.sliceAt (s : State) (n : Nat) : Option Nat := sliceOnLane s.view s.part n

/-- LNK_SLICE2 STATE. -/
def State.sliceState (s : State) (i : Nat) : Nat := s.f (aOf.lnkSlice2 i) 0 3

/-- A slice changes state and cause, with the event of its first lane (R155). -/
def State.toSlice (s : State) (i st cause : Nat) : State :=
  let was := s.sliceState i
  let s := (s.setF (aOf.lnkSlice2 i) 0 3 st).setF (aOf.lnkSlice2 i) 8 8 cause
  let n := (s.sd i).first
  s.when (was != st && decide (n < s.part.lanes)) (·.raise (512 + n))

/-- FIT and FOK of pair `k` are both 1, FOK as the frame in force has it. -/
def State.fitFok (s : State) (k : Nat) : Bool := s.bit (aOf.lnkPair k) 1 && bitOf (s.view (aOf.lnkPair k)) 0

/-- The lanes that carry slice `i`, with their SPLIT (R130, R141). -/
def State.carrying (s : State) (i : Nat) : List (Nat × Nat) :=
  let d := s.sd i
  if d.paired then
    let k := d.first / 2
    match s.f (aOf.lnkPair k) 2 2 with
    | 0 => [(2 * k, 1), (2 * k + 1, 2)]
    | 1 => [(2 * k, 0)]
    | 2 => [(2 * k + 1, 0)]
    | _ => []
  else [(d.lane, 0)]

/-- The pairs an enabled paired slice names. -/
def State.pairsUsed (s : State) : List Nat :=
  (List.range (s.part.lanes / 2)).filter (fun k =>
    match sliceOnLane s.rd s.part (2 * k) with
    | some i => (sliceOf s.rd i).en && (sliceOf s.rd i).paired
    | none => false)

/-- Firmware writes FOK of each pair by its check of R138 at a period and an operating point; before a change takes
effect it only clears FOK (`after` false). -/
def State.writeFok (s : State) (after : Bool) (period op : Nat) : State :=
  s.when (s.fwRuns && s.domOn pdPipe) (fun s => s.pairsUsed.foldl (fun s k =>
    let ok := s.pairOk s.rd s.beam.setB k period op
    s.when (after || !ok) (·.setBit (aOf.lnkPair k) 0 ok)) s)

/-- The chunks received and any load in progress are discarded (R145). -/
def State.dropLoad (s : State) (i : Nat) : State :=
  s.setSlice i { s.slice i with chunks := [], got := [], loading := false }

/-- A management block joins the queue of slice `i`'s driver. -/
def State.queueMgmt (s : State) (i : Nat) (m : Mgmt) : State :=
  s.setSlice i { s.slice i with queue := (s.slice i).queue ++ [m] }

/-- LNK_PAIR CARRY of the pair that carries slice `i`: 0 both lanes, 1 or 2 one of them, 3 none. -/
def State.setCarry (s : State) (i carry : Nat) : State :=
  s.when (s.sd i).paired (·.setF (aOf.lnkPair ((s.sd i).first / 2)) 2 2 carry)

/-- Slice `i` becomes DEGRADED: no lane carries it until its pair moves to `survivor` (R142). -/
def State.degrade (s : State) (i : Nat) (survivor : Option Nat) (cause : Nat) : State :=
  ((s.setCarry i 3).setSlice i { s.slice i with survivor := survivor }).toSlice i slDegraded cause

/-- Slice `i` enters IDENT, carried as given (0 both lanes, 1 or 2 one of them): the management counts
restart and SEND_ID is queued, with ALM_EN = 1 (R134, R136, R145). -/
def State.identify (s : State) (i carry : Nat) : State :=
  let s := s.setCarry i carry
  let s := s.setSlice i { Slice.reset with temp := (s.slice i).temp, queue := [.cfg 0 0x9#32] }
  s.toSlice i slIdent 0

/-- A slice that waits for its lanes moves on as R145 allows: to IDENT once its lanes are UP, or one is and
the other failed training under FIT and FOK; else its state shows whether lanes train or failed to. -/
def State.progress (s : State) (i : Nat) : State :=
  let d := s.sd i
  if !d.en || mapCause s.view s.part i != 0 || (s.slice i).blocked || slTraining < s.sliceState i then s
  else
    let up := d.lanes.filter (fun n => s.laneState n == lnUp)
    let failed := d.lanes.any (fun n => (s.lane n).failedTrain)
    if up.length = d.lanes.length then s.identify i 0
    else if d.paired && up.length == 1 && failed && s.fitFok (d.first / 2) then
      s.identify i (if up.contains d.first then 1 else 2)
    else if failed || d.lanes.any (fun n => s.laneState n == lnTrain || s.laneState n == lnUp) then
      s.toSlice i slTraining (if failed then 2 else 0)
    else s.toSlice i slAbsent (if s.f (aOf.lnkSlice2 i) 8 8 = 8 then 8 else 1)

/-- Progress of the slice on lane `n`, if one names it. -/
def State.progressAt (s : State) (n : Nat) : State :=
  match s.sliceAt n with
  | some i => s.progress i
  | none => s

/-- A slice with no lane left: ABSENT with cause 8, LIGHT cleared, its lanes in DETECT (R148); a lane taken for test stays in
TEST until TAKE is cleared (R140). -/
def State.detach (s : State) (i : Nat) : State :=
  let s := ((s.dropLoad i).setBit (aOf.lnkSlice2 i) 31 false).setCarry i 3
  let s := s.toSlice i slAbsent 8
  let s := s.setSlice i { s.slice i with queries := [], queue := [] }
  (s.sd i).lanes.foldl (fun s n =>
    if s.laneState n = lnOff ∨ s.laneState n = lnIdle ∨ s.laneState n = lnTest then s
    else (s.untrain n).toLane n lnDetect) s

/-- What the failure of lane `n` means for its slice (R141, R142, R145): failover under FIT and FOK, else
DEGRADED; the detach rule when both lanes of a pair have failed. -/
def State.lostLane (s : State) (n : Nat) : State :=
  match s.sliceAt n with
  | none => s
  | some i =>
    let d := s.sd i
    let st := s.sliceState i
    if st = slIdent ∨ st = slLoading ∨ st = slReady then (s.dropLoad i).toSlice i slTraining 0
    else if st = slLit ∨ st = slDegraded then
      let other := if d.paired then (if n % 2 = 0 then n + 1 else n - 1) else n
      let otherUp := d.paired && s.laneState other == lnUp
      if d.paired && !otherUp then s.detach i
      else if st = slLit ∧ (s.carrying i).any (fun c => c.1 == n) then
        if otherUp && s.fitFok (n / 2) then s.setCarry i (if other % 2 = 0 then 1 else 2)
        else s.degrade i (if d.paired then some other else none) (s.f (aOf.lnkSlice2 i) 8 8)
      else s.when (st == slDegraded && (s.slice i).survivor == some n) (fun s =>
        s.setSlice i { s.slice i with survivor := some other })
    else s

/-- Lane `n` fails (R140): FAILED, or TEST when it was taken. -/
def State.failLane (s : State) (n : Nat) : State :=
  if s.laneState n = lnUp ∨ s.laneState n = lnTrain then
    let was := s.laneState n
    let s := s.toLane n (if s.bit (aOf.laneCtrl n) 3 then lnTest else lnFailed)
    if was = lnUp then s.lostLane n
    else match s.sliceAt n with
      | none => s
      | some i => if slIdent ≤ s.sliceState i ∧ s.sliceState i ≤ slReady then s.lostLane n else s.progress i
  else s

/-- Lane `n` enters TRAIN, sending SYN; an UP lane takes its slice back to TRAINING (R144), whether it carries it or stands
unused beside its partner. -/
def State.trainLane (s : State) (n : Nat) : State :=
  let wasUp := s.laneState n == lnUp
  let s := (s.untrain n).toLane n lnTrain
  match s.sliceAt n with
  | none => s
  | some i =>
    if wasUp && decide (slIdent ≤ s.sliceState i) then (s.dropLoad i).toSlice i slTraining 0
    else s.progress i

/-- The management counts of the driver on lane `n` start at 0 when its lanes end training (R134): the first of its slice's lanes
to become UP restarts them, and a lane that joins an UP partner leaves the counts of the exchange in progress (DEDUCED,
assumption 104). -/
def State.restartCounts (s : State) (n : Nat) : State :=
  match s.sliceAt n with
  | some i => s.when ((s.sd i).lanes.all (fun m => m == n || s.laneState m != lnUp)) (fun s =>
      s.setSlice i { s.slice i with sent := 0, credit := 0 })
  | none => s

/-- Lane `n` is UP (R144 step 4). -/
def State.upLane (s : State) (n : Nat) : State :=
  ((s.restartCounts n).setLane n { s.lane n with trial := none, failedTrain := false }).toLane n lnUp |>.progressAt n

/-- Training failed: back to DETECT for 100 ms, with cause 2 (R144). -/
def State.failTraining (s : State) (n : Nat) : State :=
  ((s.setLane n { (s.lane n).fresh with holdoff := true, failedTrain := true }).toLane n lnDetect).progressAt n

/-- A lane in TRAIN moves on as its lock and the driver's SYN allow (R144 steps 3 and 4). -/
def State.trainStep (s : State) (n : Nat) : State :=
  let l := s.lane n
  if s.laneState n ≠ lnTrain then s
  else if l.doneSent then s.when l.drvDone (·.upLane n)
  else if s.bit (aOf.laneStat n) 4 && l.drvLock && l.trial.isNone then
    if s.bit (aOf.laneCtrl n) 7 then s.setLane n { l with trial := some 0, heard := none, best := none, preset := 0 }
    else
      let s := s.setLane n { l with doneSent := true, preset := s.f (aOf.laneCtrl n) 4 3 }
      s.when l.drvDone (·.upLane n)
  else s

/-! ### Error windows (R154) -/

/-- The error window TIME_NS stands in, aligned to 1 ms ticks. -/
def State.winNow (s : State) (n : Nat) : Nat := s.extNs / 1000000 / max (s.f (aOf.laneThr n) 24 8) 1

/-- One more BLK, NAK or OVF in the window of lane `n`. -/
def State.countError (s : State) (n : Nat) : State :=
  let l := s.lane n
  let w := s.winNow n
  if l.winId = w then s.setLane n { l with winCount := l.winCount + 1 }
  else s.setLane n { l with winId := w, winCount := 1, winHit := false }

/-- A return block is discarded and counted (R127). -/
def State.discardBlock (s : State) (n : Nat) : State := (s.bump (aOf.laneErr n) 24 8 1).countError n

/-! ### Blocks -/

/-- Byte `i` of a payload (R15). -/
def payByte (b : BitVec 64) (i : Nat) : Nat := (b >>> (8 * i)).toNat % 256

/-- Two bytes of a payload, the lower-numbered one less significant (R125). -/
def payHalf (b : BitVec 64) (i : Nat) : Nat := payByte b i + payByte b (i + 1) * 256

/-- The first seven bytes of a payload. -/
def payHead (b : BitVec 64) : List Byte := (List.range 7).map (fun i => BitVec.ofNat 8 (payByte b i))

/-- The CRC-8 in byte 7 matches (R127). -/
def payCrcOk (b : BitVec 64) : Bool := (crc8 (payHead b)).toNat == payByte b 7

/-- A payload from its bytes, byte 0 first. -/
def payOf (bs : List Nat) : BitVec 64 := BitVec.ofNat 64 (leNat (bs.map (fun b => BitVec.ofNat 8 b)))

/-- A control payload with its CRC-8 in byte 7. -/
def payCrc (bs : List Nat) : BitVec 64 :=
  let h := (bs ++ List.replicate 7 0).take 7
  payOf (h ++ [(crc8 (h.map (fun b => BitVec.ofNat 8 b))).toNat])

/-- A CFG block (Table 06-2). -/
def cfgBlock (addr tag : Nat) (v : Word) : BitVec 64 :=
  let a := addr % 16384 + tag % 4 * 16384
  payCrc ([0x78, a % 256, a / 256] ++ (leBytes v).map (·.toNat))

/-- An RBQ block (Table 06-2). -/
def rbqBlock (row col count type tag : Nat) : BitVec 64 :=
  payCrc [0x87, row % 256, row / 256, col % 256, col / 256, count, type % 16 + tag % 16 * 16]

/-- A return control block of a type defined there, with its CRC-8 where the type carries one (R127). -/
def returnOk (b : BitVec 64) : Bool :=
  let code := payByte b 0
  code == 0x1E || code == 0xCC || ([0x2D, 0x99, 0xAA, 0xB4, 0xD2].contains code && payCrcOk b)

/-- How many of the last 64 headers of a lane were invalid. -/
def Lane.badHeaders (l : Lane) : Nat := (List.range 64).countP (fun i => l.hdrs.getLsbD i)

/-- A header has been received: 01 and 10 are valid (R125). -/
def Lane.header (l : Lane) (h : BitVec 2) : Lane :=
  let bad := h == 0#2 || h == 3#2
  { l with hdrs := l.hdrs <<< 1 ||| (if bad then 1#64 else 0#64), run := if bad then 0 else min (l.run + 1) 64 }

/-- The receiver of lane `n` gains block lock (R127). -/
def State.gainLock (s : State) (n : Nat) : State :=
  ((s.setLane n { s.lane n with hdrs := 0#64, run := 64 }).setBit (aOf.laneStat n) 4 true).trainStep n

/-- The receiver of lane `n` loses block lock, and the lane fails (R127, R140). -/
def State.loseLock (s : State) (n : Nat) : State :=
  ((s.setLane n { s.lane n with run := 0 }).setBit (aOf.laneStat n) 4 false).failLane n

/-- Block lock as the headers received so far leave it (R127). -/
def State.lockByHeaders (s : State) (n : Nat) : State :=
  if s.bit (aOf.laneStat n) 4 then s.when (decide (16 ≤ (s.lane n).badHeaders)) (·.loseLock n)
  else s.when ((s.lane n).run == 64 && s.laneState n != lnOff) (·.gainLock n)

/-- The data bits of a block that arrives on return lane `n` (R126). -/
def State.heard (s : State) (n : Nat) (b : RxBlock) : BitVec 64 := descramble (s.lane n).rxHist b.payload

/-- What a locked receiver makes of a block whose command names the type `code`: it discards and counts a block by R127 and acts
on a good control block of that type; a data block, or a good block of another type, has no effect here. -/
def State.actBlock (s : State) (n code : Nat) (header : BitVec 2) (d : BitVec 64) (f : BitVec 64 → State → State) : State :=
  if header = 1#2 then s
  else if header = 2#2 ∧ returnOk d then s.when (payByte d 0 == code) (f d)
  else s.discardBlock n

/-- A block arrives on return lane `n`: the receiver descrambles it, counts its header and, while locked, acts on it (R125 to
R127). -/
def State.onBlock (s : State) (n code : Nat) (b : RxBlock) (f : BitVec 64 → State → State) : State :=
  s.when (s.laneAlive n) (fun s =>
    let d := s.heard n b
    let locked := s.bit (aOf.laneStat n) 4
    let s := s.setLane n { (s.lane n).header b.header with rxHist := lineHistory b.payload }
    let s := s.when locked (·.actBlock n code b.header d f)
    s.lockByHeaders n)

/-- The forward lanes the driver on return lane `n` has: the lanes of its slice, else the lane itself. -/
def State.driverLanes (s : State) (n : Nat) : List Nat :=
  match s.sliceAt n with
  | some i => (s.sd i).lanes
  | none => [n]

/-! ### ACK (R132 to R134, R140) -/

/-- The driver's lock on forward lane `m` (RXL): a cleared bit fails an UP lane. -/
def State.rxl (s : State) (m : Nat) (on : Bool) : State :=
  let s := s.setBit (aOf.laneStat m) 5 on
  s.when (!on && s.laneState m == lnUp) (·.failLane m)

/-- The effect of an ACK on return lane `n`. A failed line counts in LNKn_ERR NAK of the lane its ACK arrived on, in pair
carriage too (the manual names no lane: DESIGN CHOICE, assumption 103). -/
def State.ackOp (s : State) (n : Nat) (b : BitVec 64) : State :=
  let bits := payByte b 4
  let s := match s.sliceAt n with
    | some i => s.setSlice i { s.slice i with credit := payByte b 1 }
    | none => s
  let s := s.when (bits % 2 == 1) (fun s =>
    let s := (s.bump (aOf.laneErr n) 0 16 1).countError n
    match s.sliceAt n with
    | some i => s.drawn.setSlice i { s.slice i with nakRows := (payHalf b 2 % 1024, payHalf b 5, s.stampOf false) :: (s.slice i).nakRows }
    | none => s)
  ((s.driverLanes n).zipIdx).foldl (fun s e => s.rxl e.1 (bits / 2 ^ (e.2 + 1) % 2 == 1)) s

/-! ### Read-back (R150) -/

/-- The expected value of a code of depth `b`. -/
def rbExpect (code b : Nat) : Nat := (roundEven (code * 4095 : Nat) (2 ^ b - 1)).toNat

/-- A sample mismatches its expected value. -/
def State.rbBad (s : State) (e v : Nat) : Bool :=
  let r := s.rd aOf.lnkRbtol
  decide (fld r 16 12 + (roundEven (e * fld r 0 8 : Nat) 256).toNat < (if e ≤ v then v - e else e - v))

/-- How many of the samples an RBD brings for a query are valid, compared and mismatch; none of a row whose line was
NAKed. -/
def State.rbMisses (s : State) (i : Nat) (q : RbQuery) (b : BitVec 64) : Nat :=
  let nak := (s.slice i).nakRows.any (fun r => r.1 == q.row && r.2.1 == q.frame.toNat % 65536)
  ((List.range (min (payByte b 1 / 16 % 4) 2)).filter (fun j =>
    let v := payHalf b (3 + 2 * j)
    match q.expect.getD (payByte b 2 + j) none with
    | none => false
    | some e => !nak && v / 4096 % 2 == 0 && s.rbBad e (v % 4096))).length

/-- The read-back sweep of a self-test ends once every row has been queried and answered or given up: its detail is the
mismatches (R261). -/
def State.sweepEnd (s : State) : State :=
  s.when (s.testing 7 && (List.range 64).all (fun i => !(s.slice i).sweep && (s.slice i).queries.isEmpty)) (fun s =>
    s.endTest 7 s.openFail (BitVec.ofNat 32 ((s.fw.test.map (·.count)).getD 0)))

/-- The effect of an RBD for slice `i`: each valid, compared sample that mismatches counts in RBMIS of the
slice's first lane, with event 640 + n at most once in a frame. -/
def State.rbdOp (s : State) (i : Nat) (b : BitVec 64) : State :=
  let tag := payByte b 1 % 16
  let n := payByte b 1 / 16 % 4
  match (s.slice i).queries.find? (fun q => q.tag == tag) with
  | none => s
  | some q =>
    let lane := (s.sd i).first
    let bad := s.rbMisses i q b
    let q' := { q with answered := q.answered ++ (List.range (min n 2)).map (payByte b 2 + ·) }
    let whole := (List.range q.expect.length).all (fun j => q'.answered.contains j)
    let rest := (s.slice i).queries.filter (fun r => r.tag != tag)
    let s := s.setSlice i { s.slice i with queries := if whole then rest else rest ++ [q'] }
    let told := (s.slice i).rbEvent == some s.pipe.tag.number
    s.when (decide (0 < bad)) (fun s =>
      let s := (s.bump (aOf.laneErr2 lane) 0 16 bad).setSlice i { s.slice i with rbEvent := some s.pipe.tag.number }
      let s := s.when (s.testing 7) (·.testCounts bad)
      s.when (!told) (·.raise (640 + lane))) |>.sweepEnd

/-! ### Images (R145, R146) -/

/-- Byte string of the chunks received, `len` bytes long. -/
def Slice.image (l : Slice) (len : Nat) : List Byte :=
  ((List.range (ceilDiv len 4)).flatMap (fun c => leBytes (tget (fun _ => 0#32) l.chunks c))).take len

/-- Word `i` of an image. -/
def imgWord (bs : List Byte) (i : Nat) : Word := BitVec.ofNat 32 (leNat ((bs.drop (i * 4)).take 4))

/-- The identity image is accepted (R145). -/
def State.identityOk (s : State) (i : Nat) (bs : List Byte) : Bool :=
  let d := s.sd i
  let w := imgWord bs
  let exp := s.rd aOf.lnkExpid
  let mqd := fld (w 1) 16 8
  crc32c (bs.take 28) == w 7 && fld (w 2) 0 16 == d.w && fld (w 2) 16 16 == d.h &&
  bitOf (w 1) (8 + d.depth) && (!d.paired || bitOf (w 1) 12) && decide (1 ≤ mqd) && decide (mqd ≤ 128) &&
  (exp == 0#32 || exp == w 0)

/-- The complete identity image is checked: LOADING, or ABSENT with cause 3. -/
def State.checkIdentity (s : State) (i : Nat) : State :=
  let bs := (s.slice i).image 32
  if s.identityOk i bs then
    let s := s.dropLoad i
    (s.setSlice i { s.slice i with mqd := fld (imgWord bs 1) 16 8, imageLen := (imgWord bs 3).toNat, retried := false }).toSlice i slLoading 0
  else
    let s := s.dropLoad i
    (s.setSlice i { s.slice i with blocked := true }).toSlice i slAbsent 3

/-- A load fails with a cause: one retry, then ABSENT (R146). -/
def State.failLoad (s : State) (i cause : Nat) : State :=
  let again := !(s.slice i).retried
  let s := s.dropLoad i
  if again then (s.setSlice i { s.slice i with retried := true }).setF (aOf.lnkSlice2 i) 8 8 cause
  else (s.setSlice i { s.slice i with blocked := true }).toSlice i slAbsent cause

/-- Some enabled region of master `m` covers the 4 KiB block of Tundish word `w` and grants the operation
(R201). -/
def State.tunAllowed (s : State) (m w : Nat) (write : Bool) : Bool :=
  (List.range 16).any (fun i =>
    let r := s.rd (aOf.tunRgn (16 * m + i))
    bitOf r 31 && bitOf r (if write then 29 else 30) && decide (fld r 0 7 ≤ w / 1024) && decide (w / 1024 ≤ fld r 16 7))

/-- A region violation: dropped, recorded in TUN_VIOL, event 897 (R201). -/
def State.tunViolation (s : State) (m w : Nat) : State :=
  (s.wr aOf.tunViol (BitVec.ofNat 32 (2 ^ 31 + m * 2 ^ 28 + w))).raise 897

/-- A write by master `m` to a Tundish word, as its regions allow. -/
def State.tunMasterWrite (s : State) (m w : Nat) (v : Word) : State :=
  if s.tunAllowed m w true then s.tunPut w v else s.tunViolation m w

/-- Calibration defect entries with the slice's origin added (R146), as two words each. -/
def stagedEntry (d : SliceD) (lo hi : Word) : Word × Word :=
  (setFld (setFld lo 0 12 (fld lo 0 12 + d.x0)) 12 10 (fld lo 12 10 + d.y0), hi)

/-- The complete calibration image is checked and applied (R146). -/
def State.checkCal (s : State) (i : Nat) : State :=
  let d := s.sd i
  let len := (s.slice i).imageLen
  let bs := (s.slice i).image len
  let w := imgWord bs
  let tc := d.w / 8
  let tr := d.h / 8
  let n := (w 3).toNat
  let good := fld (w 0) 0 8 == 1 && (w 1).toNat == len && fld (w 2) 0 16 == tc && fld (w 2) 16 16 == tr &&
    len == 32 + 80 * (tc * tr) + 8 * n && crc32c (bs.drop 32) == w 7
  if !good then s.failLoad i 4
  else if s.f aOf.lnkCal 0 15 < n then s.failLoad i 5
  else
    let s := (List.range (tc * tr)).foldl (fun s j =>
      let t := (d.y0 / 8 + j / tc) * 512 + d.x0 / 8 + j % tc
      s.cruPut (s.part.flatBase + s.part.packed t * 80) ((bs.drop (32 + 80 * j)).take 80)) s
    let base := s.f aOf.lnkCal 16 7 * 1024
    let s := s.tunMasterWrite 5 base (BitVec.ofNat 32 n)
    let s := (List.range n).foldl (fun s j =>
      let o := (32 + 80 * (tc * tr) + 8 * j) / 4
      let e := stagedEntry d (w o) (w (o + 1))
      (s.tunMasterWrite 5 (base + 2 + 2 * j) e.1).tunMasterWrite 5 (base + 3 + 2 * j) e.2) s
    let s := ((s.dropLoad i).setBit aOf.lnkCal 31 true).setF aOf.lnkCal 24 6 i
    s.toSlice i slReady 0

/-- A CAL chunk for slice `i` is placed by its index; a complete image is checked. -/
def State.calOp (s : State) (i : Nat) (b : BitVec 64) : State :=
  let c := (payByte b 1 + payByte b 2 * 256 + payByte b 3 * 65536) % 2 ^ 22
  let kind := payByte b 3 / 64
  let l := s.slice i
  let words := if kind = 0 then 8 else ceilDiv l.imageLen 4
  let wanted := (kind == 0 && s.sliceState i == slIdent) || (kind == 1 && s.sliceState i == slLoading && l.loading)
  if wanted && decide (c < words) then
    let v := BitVec.ofNat 32 (payHalf b 4 + payHalf b 6 * 65536)
    let l := { l with chunks := tset (fun _ => 0#32) l.chunks c v, got := tset (fun _ => false) l.got c true }
    let s := s.setSlice i l
    s.when (decide (l.got.length = words)) (if kind = 0 then (·.checkIdentity i) else (·.checkCal i))
  else s

/-! ### FOM (R149, R154) -/

/-- The figure of merit of forward lane `m`: event 576 + m when it crosses below FOMMIN. -/
def State.fomLane (s : State) (m fom : Nat) : State :=
  let low := s.f (aOf.laneThr m) 0 8
  let crossed := decide (low ≤ s.f (aOf.laneStat m) 8 8) && decide (fom < low)
  let s := s.setF (aOf.laneStat m) 8 8 fom
  let l := s.lane m
  let s := s.when l.trial.isSome (·.setLane m { l with heard := some fom })
  s.when crossed (·.raise (576 + m))

/-- The effect of a FOM block on return lane `n`; one with TEMPV = 0 is no reading (R149). -/
def State.fomOp (s : State) (n : Nat) (b : BitVec 64) : State :=
  let s := ((s.driverLanes n).zipIdx).foldl (fun s e => s.fomLane e.1 (payByte b (1 + e.2))) s
  let first := (s.driverLanes n).headD n
  let tempv := payByte b 5 % 2 == 1
  let s := (s.when tempv (·.setF (aOf.laneStat first) 16 16 (payHalf b 3))).setBit (aOf.laneStat first) 6 tempv
  match s.sliceAt n with
  | some i => s.when tempv (fun s => s.setSlice i { s.slice i with temp := some (sx 16 (payHalf b 3), s.extNs) })
  | none => s

/-! ### The frame edge (R139, R141 to R144, R147) -/

/-- Slice `i` after new descriptors came into force; `old` is the descriptor before. -/
def State.resliceOne (s : State) (old : Nat → Word) (i : Nat) : State :=
  let d := s.sd i
  let o := sliceOf old i
  let cause := mapCause s.view s.part i
  if !d.en then
    if o.en ∨ s.sliceState i ≠ slAbsent then ((s.dropLoad i).setSlice i Slice.reset).toSlice i slAbsent 0 else s
  else if cause ≠ 0 then ((s.dropLoad i).setSlice i Slice.reset).toSlice i slAbsent cause
  else if !o.en || o.paired != d.paired || o.first != d.first || s.f (aOf.lnkSlice2 i) 8 8 == 6 || s.f (aOf.lnkSlice2 i) 8 8 == 7 then
    (((s.setSlice i Slice.reset).setF (aOf.lnkSlice2 i) 8 8 0).toSlice i slAbsent 0).progress i
  else s.progress i

/-- FIT of every pair with an enabled slice (R139). -/
def State.setFits (s : State) (period : Nat) : State :=
  (List.range 32).foldl (fun s k =>
    match s.sliceAt (2 * k) with
    | some i => s.when (s.sd i).paired (fun s =>
        s.setBit (aOf.lnkPair k) 1 (fitOk (s.sd i) period (rateCode s.view (2 * k))))
    | none => s) s

/-- What the edge does to slice `i`: a DEGRADED slice moves to its survivor under FIT and FOK, pair carriage is restored on
request and only so (R143), a READY slice with LIGHT = 1 becomes LIT. -/
def State.edgeSlice (s : State) (i : Nat) : State :=
  let d := s.sd i
  let k := d.first / 2
  let st := s.sliceState i
  let up := d.lanes.filter (fun n => s.laneState n == lnUp)
  let restored (s : State) : State := (s.setCarry i 0).setSlice i { s.slice i with restore := false, survivor := none }
  let survivor := match (s.slice i).survivor with
    | some n => if up.contains n then some n else up.head?
    | none => up.head?
  if st = slDegraded then
    if !d.paired then s.when (!up.isEmpty) (·.toSlice i slLit 0)
    else if (s.slice i).restore && up.length == 2 then (restored s).toSlice i slLit 0
    else match survivor with
      | some n => s.when (s.fitFok k) (fun s =>
          ((s.setCarry i (if n % 2 = 0 then 1 else 2)).setSlice i { s.slice i with survivor := none }).toSlice i slLit 0)
      | none => s
  else
    let s := s.when ((s.slice i).restore && up.length == 2) restored
    s.when (st == slReady && bitOf (s.view (aOf.lnkSlice2 i)) 31) (·.toSlice i slLit 0)

/-- The SOF block (Table 06-2). -/
def sofBlock (frame te : Word) (setB ewo ewp : Bool) : BitVec 64 :=
  payOf ([0x33] ++ (leBytes frame).map (·.toNat) ++ [te.toNat % 256, te.toNat / 256 % 256,
    b2n setB + b2n ewo * 2 + b2n ewp * 4])

/-- The LAUNCH_HI tag (Table 06-4). -/
def launchHi (te : Word) : BitVec 64 := payOf [0x66, 0x02, 2, te.toNat / 2 ^ 16 % 256, te.toNat / 2 ^ 24 % 256, 0, 0, 0]

/-- An EXPWIN tag (Table 06-4). -/
def expWin (t : EwTag) : BitVec 64 :=
  payOf [0x66, 0x01, 5, t.w, t.start % 256, t.start / 256 % 256, t.len % 256, t.len / 256 % 256]

/-- The units of lane `n`'s backlog that make one block: 1 / (8 f) ns, with f the pipeline clock in MHz (R138). -/
def State.blockUnits (s : State) (n : Nat) : Nat := opMhz s.op * blockEighths (rateCode s.view n)

/-- The lines of the frame before that the SOF of lane `n` cuts count in LNKn_ERR OVF and in the lane's error window (R131). -/
def State.countCuts (s : State) (n : Nat) : State :=
  let cuts := (s.lane n).cuts
  (List.range cuts).foldl (fun s _ => s.countError n) (s.bump (aOf.laneErr n) 16 8 cuts)

/-- The SOF slot of lane `n`: the blocks of the frame before are gone, and its SOF, LAUNCH_HI and EXPWIN tags leave (R129, R131). -/
def State.sofSlot (s : State) (n : Nat) (blocks : List (BitVec 64)) : State :=
  let s := s.countCuts n
  let s := s.setLane n { s.lane n with backlog := blocks.length * s.blockUnits n, cuts := 0, resting := false }
  blocks.foldl (fun s b => s.sendBlock n true b) s

/-- Every forward lane in state UP sends its SOF and tags (R129). -/
def State.sendSof (s : State) (frame te : Word) (setB ewo : Bool) (tags : List EwTag) : State :=
  (List.range s.part.lanes).foldl (fun s n =>
    s.when (s.laneOn n && s.laneState n == lnUp) (fun s =>
      s.sofSlot n (sofBlock frame te setB ewo (!tags.isEmpty) :: launchHi te :: tags.map expWin))) s

/-- Lanes leave IDLE once PIPE_STAT HALT is clear: IDL from this edge, SOF and lines from the next, without training (R144). -/
def State.leaveIdle (s : State) : State :=
  s.when (!s.bit aOf.pipeStat 4) (fun s =>
    (List.range s.part.lanes).foldl (fun s n =>
      s.when (s.laneOn n && s.laneState n == lnIdle) (fun s =>
        ((s.setLane n { s.lane n with resting := true }).toLane n lnUp).sendBlock n true idlBlock)) s)

/-- The link at a frame-start edge, after the new descriptors are in force. -/
def State.linkEdge (s : State) (old : Nat → Word) (period : Nat) : State :=
  let s := (List.range 64).foldl (fun s i => s.resliceOne old i) s
  let s := s.setFits period
  -- a pair with FIT and FOK gone degrades a slice on one lane (R143)
  let s := (List.range 64).foldl (fun s i =>
    let d := s.sd i
    match s.carrying i with
    | [c] => s.when (d.en && d.paired && s.sliceState i == slLit && !s.fitFok (d.first / 2)) (·.degrade i (some c.1) 0)
    | _ => s) s
  (List.range 64).foldl (fun s i => s.when (s.sd i).en (·.edgeSlice i)) s

/-! ### Register writes with rows of their own -/

/-- Lane `n` is OFF. -/
def State.laneOff (s : State) (n : Nat) : State :=
  if s.laneState n = lnOff then s
  else
    let st := s.laneState n
    let s := (s.untrain n).toLane n lnOff
    if st = lnUp then s.lostLane n else s.progressAt n

/-- LNKn_CTRL EN. -/
def State.laneEnOp (s : State) (n : Nat) (en : Bool) : State :=
  let was := s.bit (aOf.laneCtrl n) 2
  let s := s.setBit (aOf.laneCtrl n) 2 en
  if en then
    let s := match s.sliceAt n with
      | some i => s.when (!was && (s.slice i).blocked) (fun s => s.setSlice i { s.slice i with blocked := false })
      | none => s
    s.when (s.bit aOf.lnkCtrl 0 && s.laneState n == lnOff) (fun s => ((s.untrain n).toLane n lnDetect).progressAt n)
  else s.laneOff n

/-- LNKn_CTRL TAKE: the lane sends its PRBS, or IDL (Table 06-9). With CHK = 1 the return checker has counted errors when TAKE
is cleared; how many is open (R151, assumption 105). -/
def State.laneTakeOp (s : State) (n : Nat) (take : Bool) : State :=
  let s := s.setBit (aOf.laneCtrl n) 3 take
  if take then
    if s.laneState n = lnOff ∨ s.laneState n = lnTest then s
    else
      let wasUp := s.laneState n == lnUp
      let s := (s.untrain n).toLane n lnTest
      let pattern := s.f (aOf.laneCtrl n) 8 2
      let s := if pattern = 0 then s.sendBlock n true idlBlock else s.emit (.prbs n pattern (prbsHead pattern))
      if wasUp then s.lostLane n else s.progressAt n
  else s.when (s.laneState n == lnTest) (fun s =>
    let s := s.when (s.bit (aOf.laneCtrl n) 10) (fun s => s.drawn.bump (aOf.lanePrbs n) 0 24 (Config.measured s.free).toNat)
    s.trainLane n)

/-- LNKn_CTRL RATE. -/
def State.laneRateOp (s : State) (n rate : Nat) : State :=
  let changed := s.f (aOf.laneCtrl n) 0 2 != rate
  let s := s.setF (aOf.laneCtrl n) 0 2 rate
  s.when (changed && s.laneState n == lnUp) (·.trainLane n)

/-- LNK_CTRL EN. -/
def State.linkEnOp (s : State) (en : Bool) : State :=
  let s := s.setBit aOf.lnkCtrl 0 en
  (List.range s.part.lanes).foldl (fun s n =>
    s.when (s.laneOn n) (fun s =>
      if en then s.when (s.bit (aOf.laneCtrl n) 2 && s.laneState n == lnOff) (fun s =>
        ((s.untrain n).toLane n lnDetect).progressAt n)
      else s.laneOff n)) s

/-- LNKn_EYE GO. -/
def State.eyeOp (s : State) (n : Nat) : State := s.setBit (aOf.laneEye n) 30 true

/-- LNK_CAL DONE cleared. -/
def State.calDoneOp (s : State) : State := s.setBit aOf.lnkCal 31 false

/-! ### Commands -/

/-- ACK_RECEIVE (R134, R140). -/
def execAckReceive (n : Fin 64) (b : RxBlock) (s : State) : Res :=
  done (s.begin.onBlock n.val 0x99 b (fun d s => s.ackOp n.val d))

/-- RBD_RECEIVE (R150). -/
def execRbdReceive (n : Fin 64) (b : RxBlock) (s : State) : Res :=
  done (s.begin.onBlock n.val 0xAA b (fun d s =>
    match s.sliceAt n.val with
    | some i => s.rbdOp i d
    | none => s))

/-- What an alarm on lane `n` tells a self-test (R261): TEST_RESULT from the driver of the lane under a PRBS test ends that test,
with its errors as the detail and TAKE cleared (R151, Table 06-6); an alarm from the slice of a pixel scan counts. -/
def State.testAlarm (s : State) (n code value : Nat) : State :=
  match s.fw.test with
  | none => s
  | some x =>
    let m := fld x.arg 0 6
    if x.id = 5 ∧ code = 8 ∧ s.sliceAt n = s.sliceAt m ∧ s.laneState m = lnTest then
      (((s.testCounts value).laneTakeOp m false)).endTest 5 s.openFail (BitVec.ofNat 32 value)
    else s.when (x.id == 11 && s.sliceAt n == some m) (·.testCounts 1)

/-- ALM_RECEIVE (R155). -/
def execAlmReceive (n : Fin 64) (b : RxBlock) (s : State) : Res :=
  done (s.begin.onBlock n.val 0xB4 b (fun d s =>
    let s := s.wr (aOf.laneAlm0 n.val) (BitVec.ofNat 32 (payByte d 1 * 2 ^ 24 + payByte d 2 * 2 ^ 16 + payHalf d 3))
    let s := (s.bump (aOf.laneAlm1 n.val) 16 16 1).setF (aOf.laneAlm1 n.val) 0 16 (payHalf d 5)
    (s.raiseD (704 + n.val) (s.rd (aOf.laneAlm0 n.val))).testAlarm n.val (payByte d 1) (payHalf d 5)))

/-- CAL_RECEIVE (R145, R146). -/
def execCalReceive (n : Fin 64) (b : RxBlock) (s : State) : Res :=
  done (s.begin.onBlock n.val 0xCC b (fun d s =>
    match s.sliceAt n.val with
    | some i => s.calOp i d
    | none => s))

/-- FOM_RECEIVE (R154). -/
def execFomReceive (n : Fin 64) (b : RxBlock) (s : State) : Res :=
  done (s.begin.onBlock n.val 0xD2 b (fun d s => s.fomOp n.val d))

/-- SYN_RECEIVE (R144). -/
def execSynReceive (n : Fin 64) (b : RxBlock) (s : State) : Res :=
  done (s.begin.onBlock n.val 0x2D b (fun d s =>
    let s := s.when (s.laneState n.val == lnUp) (·.trainLane n.val)
    s.when (s.laneState n.val == lnTrain) (fun s =>
      let l := s.lane n.val
      (s.setLane n.val { l with drvLock := payByte d 1 % 2 == 1, drvDone := payByte d 1 / 2 % 2 == 1 }).trainStep n.val)))

/-- BLOCK_LOCK_GAIN (R127). -/
def execBlockLockGain (n : Fin 64) (s : State) : Res :=
  let s := s.begin
  done (s.when (s.laneAlive n.val && s.laneState n.val != lnOff) (fun s =>
    s.gainLock n.val))

/-- BLOCK_LOCK_LOSS (R127, R140). -/
def execBlockLockLoss (n : Fin 64) (s : State) : Res :=
  let s := s.begin
  done (s.when (s.laneAlive n.val && s.bit (aOf.laneStat n.val) 4) (fun s =>
    s.loseLock n.val))

/-- LANE_SIGNAL_DETECT (R144, R145). -/
def execLaneSignalDetect (n : Fin 64) (s : State) : Res :=
  let s := s.begin
  done (s.when (s.laneAlive n.val && s.laneState n.val != lnOff) (fun s =>
    let regained := !s.bit (aOf.laneStat n.val) 3
    let s := s.setBit (aOf.laneStat n.val) 3 true
    let s := match s.sliceAt n.val with
      | some i => s.when (regained && (s.slice i).blocked) (fun s => s.setSlice i { s.slice i with blocked := false })
      | none => s
    s.when (s.laneState n.val == lnDetect && !(s.lane n.val).holdoff) (·.trainLane n.val)))

/-- LANE_SIGNAL_LOSS (R140, R148). -/
def execLaneSignalLoss (n : Fin 64) (s : State) : Res :=
  let s := s.begin
  done (s.when (s.laneAlive n.val && s.laneState n.val != lnOff) (fun s =>
    let s := (s.setBit (aOf.laneStat n.val) 3 false).setBit (aOf.laneStat n.val) 4 false
    match s.sliceAt n.val with
    | some i =>
      if (s.sd i).lanes.all (fun m => !s.bit (aOf.laneStat m) 3) then s.detach i else s.failLane n.val
    | none => s.failLane n.val))

/-- LANE_RECOVER (R140). -/
def execLaneRecover (n : Fin 64) (s : State) : Res :=
  let s := s.begin
  let r := s.rd (aOf.laneStat n.val)
  done (s.when (s.laneAlive n.val && s.laneState n.val == lnFailed && bitOf r 3 && bitOf r 4 && bitOf r 5)
    (·.trainLane n.val))

/-- The best preset so far and its FOM, after the trial of preset `p`: the highest FOM heard, the lowest preset on a tie. -/
def Lane.bestAfter (l : Lane) (p : Nat) : Option (Nat × Nat) :=
  match l.heard, l.best with
  | some f, some (q, g) => if g < f then some (p, f) else some (q, g)
  | some f, none => some (p, f)
  | none, b => b

/-- PRESET_STEP (R144). -/
def execPresetStep (n : Fin 64) (s : State) : Res :=
  let s := s.begin
  let l := s.lane n.val
  match l.trial with
  | none => done s
  | some p =>
    let best := l.bestAfter p
    done (s.when (s.laneAlive n.val && s.laneState n.val == lnTrain) (fun s =>
      if p < 7 then s.setLane n.val { l with trial := some (p + 1), heard := none, best := best, preset := p + 1 }
      else match best with
        | none => s.failTraining n.val
        | some (q, _) =>
          (s.setLane n.val { l with trial := none, heard := none, best := best, preset := q, doneSent := true }).trainStep n.val))

/-- TRAIN_TIMEOUT (R144). -/
def execTrainTimeout (n : Fin 64) (s : State) : Res :=
  let s := s.begin
  done (s.when (s.laneAlive n.val && s.laneState n.val == lnTrain) (·.failTraining n.val))

/-- DETECT_HOLDOFF_END (R144). -/
def execDetectHoldoffEnd (n : Fin 64) (s : State) : Res :=
  let s := s.begin
  done (s.when (s.laneAlive n.val && (s.lane n.val).holdoff) (fun s =>
    s.setLane n.val { s.lane n.val with holdoff := false }))

/-- The lanes a management block of slice `i` may leave on, the preferred one first: an RBQ prefers the slice's first lane (R150). -/
def State.mgmtLanes (s : State) (i : Nat) (m : Mgmt) : List Nat :=
  ((match m with | .rbq _ _ _ _ => [(s.sd i).first] | .cfg _ _ => []) ++ (s.carrying i).map (·.1) ++ (s.sd i).lanes).filter
    (fun n => s.laneAlive n && s.laneState n == lnUp)

/-- A PRBS test takes its lane once DRV_TEST has been written (R151, R261). -/
def State.takeForTest (s : State) (i : Nat) (m : Mgmt) : State :=
  match s.fw.test, m with
  | some x, .cfg 1 _ => s.when (x.id == 5 && s.sliceAt (fld x.arg 0 6) == some i) (·.laneTakeOp (fld x.arg 0 6) true)
  | _, _ => s

/-- MGMT_BLOCK_SEND (R134): the oldest CFG or RBQ leaves on a lane of its slice in state UP, within credit. -/
def execMgmtBlockSend (sl : Fin 64) (s : State) : Res :=
  let s := s.begin
  let i := sl.val
  let l := s.slice i
  match l.queue with
  | [] => done s
  | m :: rest =>
   match s.mgmtLanes i m with
   | [] => done s
   | n :: _ =>
    done (s.when (s.alive && decide ((l.sent + 256 - l.credit % 256) % 256 < l.mqd)) (fun s =>
      let s := s.setSlice i { l with queue := rest, sent := (l.sent + 1) % 256
                                     wtag := match m with | .cfg _ _ => (l.wtag + 1) % 4 | _ => l.wtag }
      match m with
      | .cfg a v => (s.sendBlock n true (cfgBlock a l.wtag v)).takeForTest i m
      | .rbq row col count tag =>
        let t := s.f aOf.lnkCtrl 4 4
        s.sendBlock n true (rbqBlock row col count (if 2 ≤ t then 0 else t) tag)))

/-- CAL_LOAD_START (R146): SEND_CAL, one module at a time. -/
def execCalLoadStart (sl : Fin 64) (s : State) : Res :=
  let s := s.begin
  let i := sl.val
  let busy := (List.range 64).any (fun j => (s.slice j).loading)
  done (s.when (s.alive && s.domOn pdPipe && s.sliceState i == slLoading && !busy && !s.bit aOf.lnkCal 31) (fun s =>
    (s.setSlice i { s.slice i with loading := true, chunks := [], got := [] }).queueMgmt i (.cfg 0 0xA#32)))

/-- CAL_LOAD_TIMEOUT (R146). -/
def execCalLoadTimeout (sl : Fin 64) (s : State) : Res :=
  let s := s.begin
  done (s.when (s.alive && s.domOn pdPipe && s.sliceState sl.val == slLoading && (s.slice sl.val).loading)
    (·.failLoad sl.val 5))

/-- READBACK_TIMEOUT (R150): the oldest query is given up. -/
def execReadbackTimeout (sl : Fin 64) (s : State) : Res :=
  let s := s.begin
  let l := s.slice sl.val
  match l.queries with
  | [] => done s
  | _ :: rest => done (s.when (s.alive && s.domOn pdPipe) (fun s =>
      ((s.setSlice sl.val { l with queries := rest }).bump (aOf.laneErr2 (s.sd sl.val).first) 24 8 1).sweepEnd))

/-- ERROR_LIMIT (R154): once per window. -/
def execErrorLimit (n : Fin 64) (s : State) : Res :=
  let s := s.begin
  let l := s.lane n.val
  done (s.when (s.laneAlive n.val && decide (l.winId = s.winNow n.val) &&
      decide (s.f (aOf.laneThr n.val) 8 16 ≤ l.winCount) && !l.winHit) (fun s =>
    (s.setLane n.val { l with winHit := true }).raise (576 + n.val)))

/-- ERROR_INJECT (R152). -/
def execErrorInject (n : Fin 64) (burst : Bool) (s : State) : Res :=
  done (s.begin.access (aOf.lanePrbs n.val) (fun s => s.setLane n.val { s.lane n.val with inject := some burst }))

/-- EYE_SCAN (R153). -/
def execEyeScan (n : Fin 64) (s : State) : Res := done (s.begin.access (aOf.laneEye n.val) (·.eyeOp n.val))

/-- EYE_SCAN_END (R153); a self-test that runs the scan is answered (R261). -/
def execEyeScanEnd (n : Fin 64) (width height : Nat) (s : State) : Res :=
  let s := s.begin
  let tested := s.fw.test.any (fun x => x.id == 6 && fld x.arg 0 6 == n.val)
  done (s.when (s.laneAlive n.val && s.bit (aOf.laneEye n.val) 30) (fun s =>
    let s := ((s.setBit (aOf.laneEye n.val) 30 false).setF (aOf.laneEye n.val) 16 7 width).setF (aOf.laneEye n.val) 0 6 height
    s.when tested (fun s => s.endTest 6 s.openFail (s.rd (aOf.laneEye n.val)))))

/-- LANE_EN_WRITE (R144). -/
def execLaneEnWrite (n : Fin 64) (en : Bool) (s : State) : Res :=
  done (s.begin.access (aOf.laneCtrl n.val) (·.laneEnOp n.val en))

/-- LANE_TAKE_WRITE (R151). -/
def execLaneTakeWrite (n : Fin 64) (take : Bool) (s : State) : Res :=
  done (s.begin.access (aOf.laneCtrl n.val) (·.laneTakeOp n.val take))

/-- LANE_RATE_WRITE (R144). -/
def execLaneRateWrite (n : Fin 64) (rate : BitVec 2) (s : State) : Res :=
  done (s.begin.access (aOf.laneCtrl n.val) (·.laneRateOp n.val rate.toNat))

/-- LINK_EN_WRITE (R156). -/
def execLinkEnWrite (en : Bool) (s : State) : Res := done (s.begin.access aOf.lnkCtrl (·.linkEnOp en))

end Sys2Proof.Machine
end

