-- ==== Sys2Proof/Machine/PwrOps.lean ====
section
/-! DEFINITION. The power controller's operations (R264 to R275): votes and domain states, requests with
their tickets and completions, operating-point sequences, and the Temper engine's hardware steps (R122). -/

namespace Sys2Proof.Machine

open Sys2Proof

/-! ### Domains (R264 to R266) -/

/-- The parent of a domain (Table 12-1). -/
def domParent (d : Nat) : Nat :=
  match d with
  | 0 | 11 => 0
  | 1 => 11
  | 2 | 3 | 5 => 1
  | 4 => 5
  | _ => 4

/-- The children of a domain. -/
def domKids (d : Nat) : List Nat :=
  match d with
  | 1 => [2, 3, 5]
  | 4 => [6, 7, 8, 9, 10]
  | 5 => [4]
  | 11 => [1]
  | _ => []

/-- Set the state of a domain. -/
def State.setDstate (s : State) (d v : Nat) : State := s.setF (aOf.pwrVote d) 24 3 v

/-- The vote set of a domain. -/
def State.votes (s : State) (d : Nat) : Nat := s.f (aOf.pwrVote d) 0 8

/-- A domain has a vote, or a child that is not OFF or is wanted (`n` levels of children). -/
def wantedN : Nat → State → Nat → Bool
  | 0, s, d => s.votes d != 0
  | n + 1, s, d => s.votes d != 0 || (domKids d).any (fun k => s.dstate k != 0 || wantedN n s k)

/-- A domain shall be ON. -/
def State.wanted (s : State) (d : Nat) : Bool := wantedN 3 s d

/-- The device state of Table 12-2 in PWR_STATE DEVICE. -/
def State.deriveDevice (s : State) : State :=
  let v := if s.domOn pdPipe then (if s.f aOf.pwrState 4 2 = 3 then 4 else 3) else if s.domOn pdCtrl then 2 else 1
  s.setF aOf.pwrState 0 3 v

/-- VOUT_COMMAND carries the code of an operating point to the regulator (R273). -/
def State.sendVolt (s : State) (op : Nat) : State :=
  ({ s with pwr := { s.pwr with volt := op } }).emit (.avs (s.f aOf.pwrAvs 0 7) (s.f (aOf.pwrOpv op) 0 16))

/-- The voltage of the operating point at which PD_PIPE switches on is sent (R272). -/
def State.pipeVolt (s : State) (op : Nat) : State :=
  let job : AvsJob := { op := op, up := true, settling := false, before := s.pwr.volt }
  State.sendVolt { s with pwr := { s.pwr with avsJob := some job } } op

/-- What the votes make of one domain: a vote cancels a drain, switches a domain on once its parent is ON
(UP until the switch-on ends), and a domain that nothing wants enters DRAINING. -/
def State.stepDomain (s : State) (d : Nat) : State :=
  let st := s.dstate d
  if absentDomain s.part d then s
  else if s.wanted d then
    if st = 3 then s.setDstate d 2
    else if st = 0 ∨ st = 4 then
      s.when (s.domOn (domParent d)) (fun s => (s.setDstate d 1).when (d == pdPipe) (fun s => s.pipeVolt (s.f aOf.pwrState 6 2)))
    else s
  else if st = 2 then s.setDstate d 3
  else s

/-- Parents before children. -/
def domOrder : List Nat := [1, 2, 3, 5, 4, 6, 7, 8, 9, 10]

/-- The domains that entered DRAINING since the last time take a number of their own. -/
def State.noteDrains (s : State) : State :=
  let kept := s.pwr.drains.filter (fun e => s.dstate e.1 == 3)
  let g := kept.foldl (fun g e => max g (e.2 + 1)) 0
  let fresh := (domOrder.filter (fun d => s.dstate d == 3 && !kept.any (fun e => e.1 == d))).map (fun d => (d, g))
  { s with pwr := { s.pwr with drains := kept ++ fresh } }

/-- A domain may leave DRAINING: of siblings that entered it together, those with lower codes have left (R268). -/
def State.mayLeave (s : State) (d : Nat) : Bool :=
  let g := (s.pwr.drains.find? (fun e => e.1 == d)).map (·.2)
  !s.pwr.drains.any (fun e => decide (e.1 < d) && domParent e.1 == domParent d && g == some e.2 && s.dstate e.1 == 3)

/-- The switched domains follow their votes: one pass for each level of Table 12-1. -/
def State.settleDomains (s : State) : State :=
  (Nat.repeat (fun s => domOrder.foldl State.stepDomain s) 4 s).deriveDevice.noteDrains

/-! ### Completions (R270) -/

/-- A completion enters PWR_DONE, or is dropped with OVF on a full FIFO of 8; event 8; on entry to BURST firmware writes
the Burst period once the edge of the switch has passed (R274); a POWER_VOTE request that waits for the ticket is answered (R263). -/
def State.completeReq (s : State) (t status result : Nat) : State :=
  let s := if s.pwr.done.length < 8 then { s with pwr := { s.pwr with done := s.pwr.done ++ [⟨t, status, result⟩] } }
    else s.setBit aOf.pwrDone 29 true
  let s := s.raise 8
  let s := s.when (status == 0 && result == 4 && s.fwRuns) (fun s =>
    if s.time.running then { s with fw := { s.fw with burstDue := true } } else s.periodOp (BitVec.ofNat 32 s.fw.items.burstPeriod))
  s.answerWhere (fun r => decide (r.wait = .ticket t)) status (fun _ _ => [BitVec.ofNat 32 t, BitVec.ofNat 32 result])

/-- PWR_DONE: the oldest completion. -/
def State.pwrDoneView (s : State) : Word :=
  let ovf := s.f aOf.pwrDone 29 1 * 2 ^ 29
  match s.pwr.done with
  | [] => BitVec.ofNat 32 ovf
  | d :: _ => BitVec.ofNat 32 (2 ^ 31 + ovf + d.result * 2 ^ 20 + d.status * 2 ^ 16 + d.ticket)

/-- The next ticket, 1 to 65,535. -/
def State.newTicket (s : State) : State × Nat :=
  let t := s.pwr.tickets % 65535 + 1
  ({ s with pwr := { s.pwr with tickets := t } }, t)

/-- The number the next ticket takes. -/
def State.nextTicket (s : State) : Nat := s.pwr.tickets % 65535 + 1

/-- The operating point in force; firmware writes FOK for it (R138). -/
def State.setOp (s : State) (op : Nat) : State := (s.setF aOf.pwrState 4 2 op).deriveDevice.writeFok true s.periodInForce op

/-- PWR_STATE OP_TGT. -/
def State.setOpTgt (s : State) (op : Nat) : State := s.setF aOf.pwrState 6 2 op

/-- BUSY and the tickets of PWR_TICKET. -/
def State.showTrans (s : State) : State :=
  let cur := match s.pwr.trans with | some t => t.req.ticket | none => (match s.pwr.stepTrans with | some t => t.req.ticket | none => 0)
  let pend := match s.pwr.pendingReq with | some r => r.ticket | none => 0
  (s.setBit aOf.pwrState 8 (s.pwr.trans.isSome || s.pwr.stepTrans.isSome)).wr aOf.pwrTicket (BitVec.ofNat 32 (pend * 65536 + cur))

/-- The result a completion reports: the device state or the operating point in force. -/
def State.resultOf (s : State) (kind : Nat) : Nat := if kind = 1 then s.f aOf.pwrState 0 3 else s.f aOf.pwrState 4 2

/-- The running transition ends with a status. -/
def State.endTrans (s : State) (status : Nat) : State :=
  match s.pwr.trans with
  | none => s
  | some t => (({ s with pwr := { s.pwr with trans := none } }).completeReq t.req.ticket status (s.resultOf t.req.kind)).showTrans

/-- The operating-point part of the running transition is over: it now waits for its domains only. -/
def State.opDone (s : State) : State :=
  match s.pwr.trans with
  | none => s
  | some t => { s with pwr := { s.pwr with trans := some { t with stage := .domains } } }

/-- A transition that waits for its domains completes once they stand (R271). HIBERNATE completes when PD_CTRL enters DRAINING,
BURST with OP3 in force. -/
def State.checkTrans (s : State) : State :=
  match s.pwr.trans with
  | none => s
  | some t =>
    if t.stage ≠ .domains then s
    else
      let fine (d : Nat) : Bool :=
        if t.req.kind = 1 ∧ t.req.target = 2 then s.dstate d == 2 || s.dstate d == 0 || s.dstate d == 4
        else s.dstate d == 2
      let ok := if t.req.kind = 1 ∧ t.req.target = 1 then s.dstate pdCtrl == 3 || s.dstate pdCtrl == 0
        else if t.req.kind = 1 ∧ t.req.target = 4 then s.domOn pdPipe
        else t.domains.all fine
      if ok then s.endTrans stOk else s

/-- The domains follow their votes, and a transition that waits for them may end. -/
def State.settlePower (s : State) : State := s.settleDomains.checkTrans

/-! ### Votes (R266, R267) -/

/-- Set or clear one vote bit of a domain; PD_AON keeps no votes, an absent domain none (R5). -/
def State.mark (s : State) (d client : Nat) (on : Bool) : State :=
  if d = 0 || absentDomain s.part d then s else s.setBit (aOf.pwrVote d) client on

/-- A write to PWR_VOTE(d): SET, then CLR; FORCED is W1C. -/
def State.voteOp (s : State) (d : Nat) (v : Word) : State :=
  let s := s.when (bitOf v 27) (·.setBit (aOf.pwrVote d) 27 false)
  if d = 0 then s
  else
    let old : BitVec 8 := BitVec.ofNat 8 (s.votes d)
    let on : BitVec 8 := BitVec.ofNat 8 (fld v 8 6)
    let off : BitVec 8 := BitVec.ofNat 8 (fld v 16 6)
    (s.setF (aOf.pwrVote d) 0 8 ((old ||| on) &&& ~~~off).toNat).settlePower

/-- The domains in which a running transfer holds its source or target (R267); `dmaDoms` are those of the
DMA descriptor. -/
def State.implicitDoms (s : State) (dmaDoms : List Nat) : List Nat :=
  dmaDoms ++
  (if s.cru.retire.isSome || s.cru.fillRun.isSome then [pdCru] else []) ++
  (if s.nv.wear then [pdCru, pdNv] else []) ++
  (if s.pwr.saving then [pdCru, pdNv] else [])

/-- The implicit bits follow the running transfers. -/
def State.syncImplicit (s : State) (dmaDoms : List Nat) : State :=
  let on := s.implicitDoms dmaDoms
  ((List.range 12).foldl (fun s d => s.mark d 6 (on.contains d)) s).settlePower

/-! ### Requests (R270 to R272) -/

/-- The operating point a request asks for, if it names one: OP requests, LIT (LITOP, 3 acting as 2), BURST. -/
def State.reqOp (s : State) (r : PwrReq) : Option Nat :=
  if r.kind = 2 then some r.target
  else if r.target = 3 then some (min (s.f aOf.pwrCtrl 2 2) 2)
  else if r.target = 4 then some 3
  else none

/-- TMP_STAT SHED. -/
def State.shed (s : State) : Bool := s.domOn pdPipe && s.bit aOf.tmpStat 5

/-- A request to enter BURST is refused (R120, R121). -/
def State.burstRefused (s : State) : Bool :=
  !s.bit aOf.tmpStat 3 || decide (s.f aOf.tmpBurst 0 16 < s.f aOf.tmpBurst 16 16) || s.bit aOf.tmpStat 5

/-- A request is refused when it starts (Table 12-4). -/
def State.reqDenied (s : State) (r : PwrReq) : Bool :=
  if r.kind = 2 then decide (3 ≤ r.target) || (r.target == 2 && s.shed)
  else match r.target with
    | 1 => s.dstate pdPipe != 0
    | 3 => s.shed && (match s.reqOp r with | some n => decide (1 < n) | none => false)
    | 4 => s.burstRefused
    | _ => false

/-- The domains of the STANDBY set. -/
def standbySet : List Nat := [1, 2, 3]

/-- The lane domains that hold a lane of an enabled slice. -/
def State.sliceDomains (s : State) : List Nat :=
  [6, 7, 8, 9].filter (fun d => (List.range 64).any (fun i =>
    let k := sliceOf s.rd i
    k.en && k.lanes.any (fun n => pdLane n == d)))

/-- The OP target becomes `n`; with PD_PIPE ON an operating-point sequence starts (Table 12-5), otherwise the
target is only recorded. -/
def State.retarget (s : State) (n : Nat) : State :=
  let s := (s.setOpTgt n).writeFok false s.periodInForce n
  match s.pwr.trans with
  | none => s
  | some t =>
    let put (s : State) (st : TransStage) (up : Bool) : State :=
      { s with pwr := { s.pwr with trans := some { t with goal := n, raising := up, stage := st } } }
    if s.dstate pdPipe = 1 then (put s .domains false).pipeVolt n
    else if !s.domOn pdPipe || s.op == n then put s .domains false
    else if s.op < n then (put s .avs true).sendVolt n
    else put s .pll false

/-- The target of a request is already in force: the device state, LIT with the operating point it asks for, or the operating point
(R270). -/
def State.inForce (s : State) (r : PwrReq) : Bool :=
  if r.kind = 1 then s.f aOf.pwrState 0 3 == r.target && (match s.reqOp r with | some n => s.op == n | none => true)
  else s.domOn pdPipe && s.op == r.target

/-- A request starts (R271); one whose target is in force completes OK then, whatever would refuse it (R270). -/
def State.startReq (s : State) (r : PwrReq) : State :=
  let s := { s with pwr := { s.pwr with trans := some { req := r, goal := s.op, raising := false, stage := .domains, domains := [] } } }
  let inForce := s.inForce r
  if s.reqDenied r && !inForce then s.endTrans stDenied
  else if r.kind = 2 then (s.retarget r.target).settlePower.showTrans
  else
    let sets := match r.target with
      | 1 => []
      | 2 => standbySet
      | _ => standbySet ++ [pdCru, pdPipe] ++ s.sliceDomains ++ [pdSeg]
    let clears := if r.target = 2 then [pdCru, pdPipe, 6, 7, 8, 9, pdSeg] else []
    let here (l : List Nat) := l.filter (fun d => !absentDomain s.part d)
    -- STANDBY waits for the domains it changes, any other state for those it needs ON (Table 12-4)
    let waits := if r.target = 2 then
        (here sets).filter (fun d => !s.bit (aOf.pwrVote d) r.client) ++ (here clears).filter (fun d => s.bit (aOf.pwrVote d) r.client)
      else here sets
    let tr := s.pwr.trans.map (fun t => { t with domains := waits })
    let s := { s with pwr := { s.pwr with trans := tr, hibernating := s.pwr.hibernating || r.target == 1 } }
    let s := (here sets).foldl (fun s d => s.mark d r.client true) s
    let s := (here clears).foldl (fun s d => s.mark d r.client false) s
    let s := if r.target = 1 then
        (List.range 12).foldl (fun s d => (List.range 6).foldl (fun s c => s.mark d c false) s) s
      else s
    let s := match s.reqOp r with | some n => s.retarget n | none => s
    s.showTrans.settlePower.when inForce (·.endTrans stOk)

/-- The request waiting in the pending slot starts, if no transition runs (R270). -/
def State.startPending (s : State) : State :=
  match s.pwr.pendingReq with
  | none => s
  | some r =>
    if s.pwr.trans.isSome || s.pwr.stepTrans.isSome then s
    else ({ s with pwr := { s.pwr with pendingReq := none } }).startReq r

/-- The pending request completes SUPERSEDED. -/
def State.dropPending (s : State) : State :=
  match s.pwr.pendingReq with
  | none => s
  | some r => (({ s with pwr := { s.pwr with pendingReq := none } }).completeReq r.ticket stSuperseded (s.resultOf r.kind)).showTrans

/-- A PWR_REQ write is accepted: its TARGET is a code of its KIND and its CLIENT a vote bit (R270). -/
def reqValid (kind client target : Nat) : Bool :=
  decide (client < 6) && ((kind == 1 && decide (1 ≤ target) && decide (target ≤ 4)) || (kind == 2 && decide (target ≤ 3)))

/-- A request is made: it takes a ticket and starts, or takes the pending slot. -/
def State.request (s : State) (kind client target : Nat) : State :=
  if reqValid kind client target then
    let (s, t) := s.newTicket
    let r : PwrReq := ⟨t, kind, target, client⟩
    let s := s.setF aOf.pwrReq 0 16 t
    if s.pwr.trans.isSome || s.pwr.stepTrans.isSome || s.pwr.pendingReq.isSome then
      let s := s.dropPending
      ({ s with pwr := { s.pwr with pendingReq := some r } }).showTrans
    else s.startReq r
  else s

/-- The client whose bit a request of POWER_VOTE moves: the host's own moves by kind 0 only (R266), and firmware asks on the
diagnostics client's behalf (DESIGN CHOICE, assumption 115). -/
def firmwareClient : Nat := 4

/-- HIBERNATE is requested once its POWER_VOTE reply, and every one before it, has been posted (R275). -/
def State.hibernateNow (s : State) : State :=
  s.when (s.fw.hibernate && s.fw.outbox.isEmpty) (fun s =>
    State.request { s with fw := { s.fw with hibernate := false } } 1 firmwareClient 1)

/-! ### Operating-point sequences (R272, R273) -/

/-- The prepared frequency switch takes effect: a raise completes, a lower commands its voltage. -/
def State.switchOp (s : State) : State :=
  match s.pwr.trans with
  | none => s
  | some t =>
    if t.stage ≠ .edge then s
    else
      let s := s.setOp t.goal
      if t.raising then s.opDone.checkTrans
      else ({ s with pwr := { s.pwr with trans := some { t with stage := .avs } } }).sendVolt t.goal

/-- The stage of the sequence that waits for the AVS bus or its settling, the transition's first. -/
def State.avsOwner (s : State) : Option (Trans × Bool) :=
  match s.pwr.trans with
  | some t => if t.stage = .avs ∨ t.stage = .settle then some (t, false) else s.pwr.stepTrans.map (·, true)
  | none => s.pwr.stepTrans.map (·, true)

/-- Replace that sequence. -/
def State.putOwner (s : State) (t : Trans) (step : Bool) : State :=
  if step then { s with pwr := { s.pwr with stepTrans := some t } } else { s with pwr := { s.pwr with trans := some t } }

/-- A lowering sequence has ended, of a transition or of a Temper step (R122). -/
def State.lowered (s : State) (t : Trans) (step : Bool) : State :=
  if step then
    (({ s with pwr := { s.pwr with stepTrans := none } }).completeReq t.req.ticket stOk t.goal).showTrans
  else s.opDone.checkTrans

/-- The voltage code of an operating point is sent again. -/
def State.resend (s : State) (op : Nat) : State :=
  let job : AvsJob := { op := op, up := false, settling := false, before := op }
  State.sendVolt { s with pwr := { s.pwr with avsJob := some job } } op

/-- A VOUT_COMMAND that was not acknowledged is retried 3 times, and every try fails: event 13 (R273). -/
def State.avsFailed (s : State) (op : Nat) : State := (Nat.repeat (fun s => State.sendVolt s op) 3 s).raise 13

/-- A VOUT_COMMAND of no transition ended. One for the switch-on of PD_PIPE settles; where it fails, a raise leaves PD_PIPE to switch
on at the operating point whose voltage stands, and a lower sets VHIGH (DESIGN CHOICE, assumption 116). -/
def State.jobEnded (s : State) (j : AvsJob) (acked : Bool) : State :=
  if acked then
    ({ s with pwr := { s.pwr with avsJob := if j.up then some { j with settling := true } else none } }).setBit aOf.pwrState 9 false
  else
    let s := (State.avsFailed { s with pwr := { s.pwr with avsJob := none } } j.op)
    if !j.up then s
    else if j.before < j.op then (s.setOpTgt j.before).resend j.before
    else s.when (decide (j.op < j.before)) (·.setBit aOf.pwrState 9 true)

/-- A VOUT_COMMAND transaction ended (R273): the one of no transition, else that of the sequence that waits for it. -/
def State.avsEnded (s : State) (acked : Bool) : State :=
  match s.pwr.avsJob.filter (fun j => !j.settling), s.avsOwner with
  | some j, _ => s.jobEnded j acked
  | none, none => s
  | none, some (t, step) =>
    if t.stage ≠ .avs then s
    else if acked then (s.putOwner { t with stage := .settle } step).setBit aOf.pwrState 9 false
    else
      let s := s.avsFailed t.goal
      if t.raising then ((s.setOpTgt s.op).endTrans stDenied).resend s.op
      else (s.setBit aOf.pwrState 9 true).lowered t step

/-- The settling wait ended. -/
def State.avsSettled (s : State) : State :=
  match s.pwr.avsJob, s.avsOwner with
  | some j, _ => s.when j.settling (fun s => { s with pwr := { s.pwr with avsJob := none } })
  | none, none => s
  | none, some (t, step) =>
    if t.stage ≠ .settle then s
    else if t.raising then s.putOwner { t with stage := .pll } step
    else s.lowered t step

/-! ### Temper steps (R120 to R122) -/

/-- What a hardware step does to the running transition: one that raises the operating point, or lowers it
to a point above the step's, is abandoned SUPERSEDED. -/
def State.abandonFor (s : State) (op : Nat) : State :=
  match s.pwr.trans with
  | none => s
  | some t => if t.stage ≠ .domains ∧ (t.raising ∨ op < t.goal) then s.endTrans stSuperseded else s

/-- The same for the lowering sequence of an earlier step. -/
def State.abandonStep (s : State) (op : Nat) : State :=
  match s.pwr.stepTrans with
  | none => s
  | some t =>
    if op < t.goal then
      (({ s with pwr := { s.pwr with stepTrans := none } }).completeReq t.req.ticket stSuperseded s.op).showTrans
    else s

/-- The Temper engine makes a step to `op`, for R121 when `shed`. -/
def State.makeStep (s : State) (shed : Bool) (op : Nat) : State :=
  let (s, shed, op) := match s.temper.step with
    | some o => (({ s with temper := { s.temper with step := none } }).completeReq o.ticket stSuperseded s.op, shed || o.shed, min op o.op)
    | none => (s, shed, op)
  let s := (s.abandonFor op).abandonStep op
  let goal := match s.pwr.trans with | some t => if t.stage = .domains then s.op else min t.goal s.op | none => s.op
  -- a pending request that raises the operating point above where it then stands is replaced
  let s := match s.pwr.pendingReq with
    | some r => (match s.reqOp r with | some n => s.when (decide (min op goal < n)) (·.dropPending) | none => s)
    | none => s
  let (s, t) := s.newTicket
  let s := s.setOpTgt (min op goal)
  ({ s with temper := { s.temper with step := some { shed := shed, op := op, ticket := t, loaded := false } } }).loadStep

/-- A waiting step takes effect at its edge (R120 to R122, R182): its period is loaded, and unless a running
transition lowers the operating point as far, PD_PIPE steps down and its voltage follows. -/
def State.takeStep (s : State) : State :=
  match s.temper.step with
  | none => s
  | some o =>
    let s := { s with temper := { s.temper with step := none } }
    let s := if o.loaded then s
      else if s.bit aOf.timeFctrl 0 then
        let clash := s.time.pendPeriod.isSome && !s.time.pendTemper
        let s := s.setF aOf.timePeriod 0 25 (s.stepNs o)
        let s := { s with time := { s.time with pendPeriod := some (s.stepNs o), pendTemper := true } }
        s.when clash (·.periodLost)
      else s.setF aOf.timePeriod 0 25 (s.stepNs o)
    let r : PwrReq := ⟨o.ticket, 2, o.op, 0⟩
    let running := match s.pwr.trans with | some t => t.stage != .domains | none => false
    if running || s.pwr.stepTrans.isSome then s.completeReq o.ticket stOk s.op
    else if o.op < s.op ∨ s.pwr.volt ≠ s.op then
      let goal := min o.op s.op
      let s := s.setOp goal
      let tr : Trans := { req := r, goal := goal, raising := false, stage := .avs, domains := [] }
      (({ s with pwr := { s.pwr with stepTrans := some tr } }).sendVolt goal).showTrans
    else s.completeReq o.ticket stOk s.op

end Sys2Proof.Machine
end

