-- ==== Sys2Proof/Machine/Cru.lean ====
section
/-! DEFINITION. The Crucible, the Fettler and the Tundish (R189 to R208): errors, scrub, repair and bank
retirement, the Tundish batch, locks and March runs, and the commands of that family. -/

namespace Sys2Proof.Machine

open Sys2Proof

/-! ### Addresses of memory windows (Table 01-8) -/

/-- The domain an internal address lies in; `none` outside every row. -/
def domOfAddr (p : Part) (a : Nat) : Option Nat :=
  if a < 0x10000 then some pdCtrl
  else if (0x10000000 ≤ a ∧ a < 0x10080000) ∨ (0x11000000 ≤ a ∧ a < 0x11080000) ∨ (0x12000000 ≤ a ∧ a < 0x12080000) then some pdCtrl
  else if 0x20000000 ≤ a ∧ a < 0x20000000 + p.cruSize then some pdCru
  else if 0x30000000 ≤ a ∧ a < 0x30100000 then some pdNv
  else (blockOf p a).map (·.1)

/-- The domains of the DMA descriptor that runs. -/
def State.dmaDoms (s : State) : List Nat :=
  match s.pwr.dma with
  | none => []
  | some t => (domOfAddr s.part t.src).toList ++ (domOfAddr s.part t.dst).toList

/-- The implicit votes follow the transfers that run (R267). -/
def State.implicit (s : State) : State := s.syncImplicit s.dmaDoms

/-! ### Banks (R189) -/

/-- Logical bank of a window offset. -/
def State.bankOf (s : State) (off : Nat) : Nat := off / 8 % s.part.banks

/-- Physical bank behind logical bank `l`. -/
def State.physOf (s : State) (l : Nat) : Nat := s.f (aOf.cruBankmap (l / 4)) (l % 4 * 8) 8

/-- CRU_PSTATE of physical bank `b`: 0 SPARE, 1 ACTIVE, 2 RETIRED, 3 OUT. -/
def State.pstate (s : State) (b : Nat) : Nat := s.f (aOf.cruPstate (b / 16)) (b % 16 * 2) 2

/-- Store it; there are 136 physical banks. -/
def State.setPstate (s : State) (b v : Nat) : State :=
  s.when (decide (b < 136)) (·.setF (aOf.cruPstate (b / 16)) (b % 16 * 2) 2 v)

/-- The map entry of logical bank `l` names physical bank `b`; there are 128 entries. -/
def State.nameBank (s : State) (l b : Nat) : State :=
  s.when (decide (l < 128)) (·.setF (aOf.cruBankmap (l / 4)) (l % 4 * 8) 8 b)

/-- The logical bank that physical bank `b` serves. -/
def State.logicalOf (s : State) (b : Nat) : Option Nat := (List.range s.part.banks).find? (fun l => s.physOf l == b)

/-- Window offset of byte `i` of logical bank `l`. -/
def Part.bankOff (p : Part) (l i : Nat) : Nat := (i / 8 * p.banks + l) * 8 + i % 8

/-- Byte of its bank of a window offset. -/
def Part.bankByte (p : Part) (off : Nat) : Nat := off / 8 / p.banks * 8 + off % 8

/-- What an unwritten byte of a bank that serves nothing holds. The March leaves its second background (R206); a bank that has held
nothing yet is as open as the window's unwritten bytes (assumption 5), and shows what they read as once it is named. -/
def BankFill.byte (p : Part) : BankFill → Nat → Byte
  | .blank, _ => 0#8
  | .served l, i => cruInit p (p.bankOff l i)
  | .marched, i => if i / 8 % 2 = 0 then 0xAA#8 else 0x55#8
  | .failed n, i => (Config.measured (n + i)).setWidth 8

/-- What the bank behind logical bank `l` holds. -/
def State.bankImage (s : State) (l : Nat) : BankStore :=
  { fill := .served l
    cells := (s.cru.cells.filter (fun e => s.bankOf e.1 == l)).foldr
      (fun e t => tset ((BankFill.served l).byte s.part) t (s.part.bankByte e.1) e.2) []
    poison := (s.cru.poison.filter (fun w => w % s.part.banks == l)).map (· / s.part.banks) }

/-- What physical bank `b` holds: of two logical banks that name it, what the lower shows (DESIGN CHOICE, assumption 108). -/
def State.bankStore (s : State) (b : Nat) : BankStore :=
  match s.logicalOf b with
  | some l => s.bankImage l
  | none => tget (fun _ => BankStore.blank) s.cru.parked b

/-- Physical bank `b` keeps `c` while no logical bank names it. -/
def State.parkBank (s : State) (b : Nat) (c : BankStore) : State :=
  { s with cru := { s.cru with parked := tset (fun _ => BankStore.blank) s.cru.parked b c } }

/-- Logical bank `l` shows the contents `c`. -/
def State.showBank (s : State) (l : Nat) (c : BankStore) : State :=
  let keys := if c.fill = .served l ∨ c.fill = .blank then c.cells.map (·.1) else List.range 262144
  let others := s.cru.cells.filter (fun e => s.bankOf e.1 != l)
  { s with cru := { s.cru with
      cells := keys.foldl (fun t i => tset (cruInit s.part) t (s.part.bankOff l i) (tget (c.fill.byte s.part) c.cells i)) others
      poison := s.cru.poison.filter (fun w => w % s.part.banks != l) ++ c.poison.map (fun w => w * s.part.banks + l) } }

/-- The map entry of logical bank `l` is written: the bank it named keeps its contents, and the window shows those of the bank
named now (R189). -/
def State.mapBank (s : State) (l b : Nat) : State :=
  if s.part.banks ≤ l ∨ b = s.physOf l then s.nameBank l b
  else
    let c := s.bankStore b
    ((s.parkBank (s.physOf l) (s.bankImage l)).nameBank l b).showBank l c

/-- CRU_BANKMAP(i) is written. -/
def State.mapBanks (s : State) (i : Nat) (v : Word) : State :=
  (List.range 4).foldl (fun s j => s.mapBank (4 * i + j) (fld v (8 * j) 8)) s

/-- FET_RET PHASE. -/
def State.setPhase (s : State) (v : Nat) : State := (s.setF aOf.fetRet 29 2 v).setF aOf.fetRet 0 15 0

/-! ### Retirement (R197 to R199) -/

/-- The lowest-numbered spare bank. -/
def State.spareBank (s : State) : Option Nat := (List.range 136).find? (fun b => s.pstate b == 0)

/-- No spare is left: NOSPARE and event 459; a self-test that waits for the retirement cannot complete. -/
def State.noSpare (s : State) : State :=
  ((({ s with cru := { s.cru with retire := none } }).setPhase 0).setBit aOf.fetRet 28 true).raise 459 |>.faultTest 4

/-- The copy of bank `l` begins on the lowest spare; the first `bad` spares it meets show errors of their own,
become OUT with event 448 + j, and the copy restarts on the next (R198). -/
def State.copyFrom (s : State) (l : Nat) : Nat → State
  | 0 =>
    match s.spareBank with
    | none => s.noSpare
    | some b => { s with cru := { s.cru with retire := some { bank := l, spare := b, old := s.physOf l, march := false } } }
  | n + 1 =>
    match s.spareBank with
    | none => s.noSpare
    | some b => State.copyFrom ((s.setPstate b 3).raise (448 + (b - 128))) l n

/-- Retirement of logical bank `l` starts (R197). -/
def State.startRetire (s : State) (l bad : Nat) : State :=
  match s.spareBank with
  | none => s.noSpare
  | some _ => ((((s.setPhase 1).setF aOf.fetRet 16 7 l).raise 456).copyFrom l bad).implicit

/-- FET_RET as read, but for PROG while a retirement runs: BANK shows the bank in progress, else the field as written. -/
def State.fetRetView (s : State) : Word :=
  let w := s.rd aOf.fetRet &&& 0x7FFFFFFF#32
  match s.cru.retire with | some r => setFld w 16 7 r.bank | none => w

/-- Insert a bank in ascending order, once. -/
def queueBank (l : Nat) : List Nat → List Nat
  | [] => [l]
  | k :: r => if l < k then l :: k :: r else if l = k then k :: r else k :: queueBank l r

/-- A trigger of R197 for bank `l`: it starts, or queues behind the one that runs and those that wait. A trigger for the bank
whose copy runs asks for what is under way (DEDUCED, assumption 109). -/
def State.retireTrigger (s : State) (l : Nat) : State :=
  let queued := { s with cru := { s.cru with retireQ := queueBank l s.cru.retireQ } }
  match s.cru.retire with
  | none => if s.cru.retireQ.isEmpty then s.startRetire l 0 else queued
  | some r => if r.bank = l ∧ !r.march then s else queued

/-- FET_RET GO: ignored while a retirement runs, and for a bank the variant does not have; it queues behind retirements that wait
(R197). -/
def State.retireGo (s : State) (bank bad : Nat) : State :=
  s.when (s.cru.retire.isNone && decide (bank < s.part.banks)) (fun s =>
    if s.cru.retireQ.isEmpty then s.startRetire bank bad
    else { s with cru := { s.cru with retireQ := queueBank bank s.cru.retireQ } })

/-- Event 320 + l, with AUTO starting retirement of the bank (R195 to R197). -/
def State.bankFault (s : State) (l : Nat) : State :=
  let s := s.raise (320 + l)
  s.when (s.bit aOf.fetCtrl 1) (·.retireTrigger l)

/-- A window word is uncorrectable, and stays so until it is written (R194). -/
def State.poisonWord (s : State) (w : Nat) : State :=
  { s with cru := { s.cru with poison := if s.cru.poison.contains w then s.cru.poison else w :: s.cru.poison } }

/-- An uncorrectable word was read (R194): it stays so until it is written; CRU_UE records its offset. -/
def State.cruUncorrectable (s : State) (off : Nat) : State :=
  (((s.poisonWord (off / 8)).bump aOf.cruUe 27 5 1).setF aOf.cruUe 0 25 off).bankFault (s.bankOf off)

/-- A corrected word of the pass: its window word and bit position, 72 where the reader names none. -/
def State.noteCorrected (s : State) (w b : Nat) : State :=
  if s.cru.corrected.contains (w, b) then s else { s with cru := { s.cru with corrected := (w, b) :: s.cru.corrected } }

/-- What SECDED finds in the window offsets that satisfy `p`, which a command reads: a single-bit error is corrected and counted, an
uncorrectable word is poison from then on (R194). -/
def State.meetFaults (s : State) (p : Nat → Bool) (fs : List CruFault) : State :=
  fs.foldl (fun s f =>
    s.when (p f.off) (fun s => if f.uncorrectable then s.poisonWord (f.off / 8) else s.noteCorrected (f.off / 8) 72)) s

/-- The uncorrectable words among the window words that satisfy `p` are read and written back as the poison pattern (R194). -/
def State.readPoison (s : State) (p : Nat → Bool) : State :=
  (s.cru.poison.filter p).foldl (fun s w => s.cruUncorrectable (w * 8)) s

/-- The words of a range that are known uncorrectable, as offsets within it. -/
def State.poisonIn (s : State) (a n : Nat) : List Nat :=
  (s.cru.poison.filter (fun w => decide (a < w * 8 + 8) && decide (w * 8 < a + n))).map (fun w => w * 8 - a)

/-- A reader other than the pipeline and the processor window copied to `b` the words of `n` bytes from `a` whose
offset satisfies `p`: where it read an uncorrectable word, the poison pattern stands in the copy (R194). -/
def State.carryPoison (s : State) (a b n : Nat) (p : Nat → Bool) : State :=
  ((s.poisonIn a n).filter p).foldl (fun s o =>
    (s.cruUncorrectable (a + o)).poisonWord ((b + o) / 8)) s

/-! ### Scrub and repair (R195, R196) -/

/-- Word within its bank of a window word. -/
def State.wordInBank (s : State) (w : Nat) : Nat := w / s.part.banks

/-- Repair entry `e` of physical bank `b`. -/
def State.repair (s : State) (b e : Nat) : Word := tget (fun _ => 0#32) s.cru.repairs (b * 16 + e)

/-- Store it: V and POS. -/
def State.setRepair (s : State) (b e : Nat) (v : Word) : State :=
  { s with cru := { s.cru with repairs := tset (fun _ => 0#32) s.cru.repairs (b * 16 + e) v } }

/-- The first free entry of a bank from `lo` to `hi`. -/
def State.freeEntry (s : State) (b lo hi : Nat) : Option Nat :=
  (List.range (hi + 1)).find? (fun e => decide (lo ≤ e) && !bitOf (s.repair b e) 15)

/-- Bit `b` of byte string position `i` of a bank, as 0 or 1. -/
def BankStore.bitAt (c : BankStore) (p : Part) (w b : Nat) : Byte :=
  BitVec.ofNat 8 ((tget (c.fill.byte p) c.cells (w * 8 + b / 8)).toNat / 2 ^ (b % 8) % 2)

/-- The cells of a bank that entry `e` stands for at row or bit position `pos`: a row's 256 bytes, or one bit of each of the 32,768
words; a check bit has none that the window shows. -/
def BankStore.column (c : BankStore) (p : Part) (e pos : Nat) : List Byte :=
  if e < 8 then getBytes (c.fill.byte p) c.cells (pos * 256) 256
  else if pos < 64 then (List.range 32768).map (fun w => c.bitAt p w pos)
  else []

/-- The same cells written. -/
def BankStore.putColumn (c : BankStore) (p : Part) (e pos : Nat) (bs : List Byte) : BankStore :=
  if e < 8 then { c with cells := putBytes (c.fill.byte p) c.cells (pos * 256) bs }
  else { c with cells := (bs.zip (List.range 32768)).foldl (fun t x =>
      let k := x.2 * 8 + pos / 8
      let old := (tget (c.fill.byte p) t k).toNat
      tset (c.fill.byte p) t k (BitVec.ofNat 8 (old - old / 2 ^ (pos % 8) % 2 * 2 ^ (pos % 8) + x.1.toNat % 2 * 2 ^ (pos % 8)))) c.cells }

/-- What stands behind entry `e` of physical bank `b` and is not read now: the spare while the entry is free, the row or column it
replaced while it is in use. -/
def State.hiddenOf (s : State) (b e : Nat) : Tab Byte := tget (fun _ => []) s.cru.hidden (b * 16 + e)

/-- Store it. -/
def State.setHidden (s : State) (b e : Nat) (bs : List Byte) : State :=
  { s with cru := { s.cru with hidden := tset (fun _ => []) s.cru.hidden (b * 16 + e) (putBytes zeroInit [] 0 bs) } }

/-- The cells behind entry `e` of physical bank `b` change places with those that row or bit position `pos` reads. -/
def State.swapRepair (s : State) (b e pos : Nat) : State :=
  let c := s.bankStore b
  let now := c.column s.part e pos
  let t := c.putColumn s.part e pos (getBytes zeroInit (s.hiddenOf b e) 0 now.length)
  let s := s.setHidden b e now
  match s.logicalOf b with
  | some l => s.showBank l t
  | none => s.parkBank b t

/-- CRU_REPDAT is written (R189, R196): the entry as it stood no longer steers, and the one written does. -/
def State.writeRepair (s : State) (b e : Nat) (v : Word) : State :=
  let old := s.repair b e
  if old = v then s
  else
    let s := s.when (bitOf old 15) (·.swapRepair b e (fld old 0 10))
    let s := s.when (bitOf v 15) (·.swapRepair b e (fld v 0 10))
    s.setRepair b e v

/-- The spare of entry `e` of physical bank `b` holds what row or bit position `pos` holds, and is read in its place. -/
def State.takeSpare (s : State) (b e pos : Nat) : State :=
  (s.setHidden b e ((s.bankStore b).column s.part e pos)).setRepair b e (BitVec.ofNat 32 (2 ^ 15 + pos))

/-- Firmware restores the Crucible map and repairs (R200). -/
def State.restoreMap (s : State) : State :=
  match s.recLoad 3 with
  | none => s
  | some bs =>
    let s := (List.range 32).foldl (fun s i => s.mapBanks i (bodyWord bs i)) s
    let s := (List.range 9).foldl (fun s i => s.wr (aOf.cruPstate i) (bodyWord bs (32 + i))) s
    (List.range 1632).foldl (fun s n => s.writeRepair (n / 12) (n % 12) (BitVec.ofNat 32 (leNat ((bs.drop (164 + 2 * n)).take 2)))) s

/-- The distinct corrected words of a pass that satisfy `p`. -/
def State.correctedWords (s : State) (p : Nat → Bool) : List Nat :=
  ((s.cru.corrected.map (·.1)).filter p).dedup

/-- A fault of physical bank `ph` needs a spare and none is left (R196). -/
def State.spareless (s : State) (ph : Nat) : State :=
  match s.logicalOf ph with | some l => s.bankFault l | none => s

/-- A row of a physical bank is copied to a free spare row, after the row that is copied now; without a free spare the bank is at
fault (R196). -/
def State.startRow (s : State) (ph row : Nat) : State :=
  if s.cru.rowRun.isSome then
    s.when (!s.cru.rowQ.contains (ph, row)) (fun s => { s with cru := { s.cru with rowQ := s.cru.rowQ ++ [(ph, row)] } })
  else match s.freeEntry ph 0 7 with
    | some e => { s with cru := { s.cru with rowRun := some (ph, row, e) } }
    | none => s.spareless ph

/-- The same for a column, whose repair raises event 461 as it starts. -/
def State.startColumn (s : State) (ph bit : Nat) : State :=
  if s.cru.fillRun.isSome then
    s.when (!s.cru.fillQ.contains (ph, bit)) (fun s => { s with cru := { s.cru with fillQ := s.cru.fillQ ++ [(ph, bit)] } })
  else match s.freeEntry ph 8 11 with
    | some e => (({ s with cru := { s.cru with fillRun := some (ph, bit, e) } }).raise 461).implicit
    | none => s.spareless ph

/-- No row is copied: the oldest waiting one starts (DESIGN CHOICE, assumption 110). -/
def State.nextRow (s : State) : State :=
  s.cru.rowQ.foldl (fun s r => s.startRow r.1 r.2) { s with cru := { s.cru with rowRun := none, rowQ := [] } }

/-- No column is filled: the oldest waiting one starts (DESIGN CHOICE, assumption 110). -/
def State.nextColumn (s : State) : State :=
  s.cru.fillQ.foldl (fun s r => s.startColumn r.1 r.2) { s with cru := { s.cru with fillRun := none, fillQ := [] } }

/-- Entries `lo` to `hi` of a bank, or the copy under way, already repair position `pos`. -/
def State.repaired (s : State) (ph lo hi pos : Nat) (run : Option (Nat × Nat × Nat)) : Bool :=
  (List.range (hi + 1)).any (fun e => decide (lo ≤ e) && bitOf (s.repair ph e) 15 && fld (s.repair ph e) 0 10 == pos) ||
  (match run with | some (p, q, _) => p == ph && q == pos | none => false)

/-- A row of bank `l` that reached ROWTHR is copied to a spare row (R196). -/
def State.repairRow (s : State) (l row : Nat) : State :=
  let ph := s.physOf l
  let hits := (s.correctedWords (fun w => w % s.part.banks == l && s.wordInBank w / 32 == row)).length
  s.when (decide (s.f aOf.fetCtrl 24 4 ≤ hits) && !s.repaired ph 0 7 row s.cru.rowRun) (·.startRow ph row)

/-- A bit position of bank `l` that reached COLTHR rows is steered to a spare column (R196). -/
def State.repairColumn (s : State) (l bit : Nat) : State :=
  let ph := s.physOf l
  let rows := (((s.cru.corrected.filter (fun c => c.1 % s.part.banks == l && c.2 == bit)).map (fun c => s.wordInBank c.1 / 32)).dedup).length
  s.when (decide (bit < 72) && decide (s.f aOf.fetCtrl 28 4 ≤ rows) && !s.repaired ph 8 11 bit s.cru.fillRun) (·.startColumn ph bit)

/-- The scrub goes on to window offset `off`: the words it passes over read clean, but for those known uncorrectable. -/
def State.scrubTo (s : State) (off : Nat) : State :=
  let lo := s.cru.scrubAt
  let s := s.readPoison (fun w => decide (lo ≤ w * 8) && decide (w * 8 < off))
  { s with cru := { s.cru with scrubAt := off } }

/-- The end of a scrub pass (R195): every word has been read once. -/
def State.passEnd (s : State) : State :=
  let s := s.scrubTo s.part.cruSize
  let ws := s.correctedWords (fun _ => true)
  let banks := (List.range s.part.banks).filter (fun l =>
    decide (s.f aOf.fetCtrl 16 8 ≤ (ws.filter (fun w => w % s.part.banks == l)).length))
  let s := { s with cru := { s.cru with corrected := [], scrubAt := 0 } }
  let s := (s.setF aOf.fetScrub 16 16 (s.f aOf.fetScrub 16 16 + 1)).setF aOf.fetScrub 0 16 (satTo 65535 ws.length)
  let s := banks.foldl (·.bankFault ·) s
  s.endTest 3 s.openFail (s.rd aOf.fetScrub)

/-! ### Commands of the Crucible -/

/-- The Crucible and the Fettler can work. -/
def State.cruOn (s : State) : Bool := s.alive && s.domOn pdCru

/-- The scrub runs: enabled, or for a self-test (R261). -/
def State.scrubs (s : State) : Bool := s.bit aOf.fetCtrl 0 || s.testing 3

/-- A word of the runner entries, of the heads and tails, or of the misc area (Table 09-2): the hardware keeps its lists there, in a
layout the manual does not give (DEDUCED, assumption 63). -/
def Part.runnerWord (p : Part) (off : Nat) : Bool :=
  let o := off - p.tileBase
  decide (p.tileBase ≤ off) && decide (off < p.glyphBase) &&
    ((decide (p.slots * 16 ≤ o) && decide (o < p.slots * 56)) || decide (p.slots * 62 ≤ o))

/-- The processor window delivers the word at an offset: an open value where the runner lists stand. -/
def State.windowData (s : State) (off : Nat) : State :=
  if s.part.runnerWord off then s.drawn.emit (.data (Config.measured s.free)) else s.emit (.data (s.cruWord off))

/-- CRUCIBLE_WINDOW_ACCESS (R30, R193, R194): a read, or a read-modify-write that an uncorrectable word ends
with a bus error; a write that goes to a spare under copy may find the spare's own error (R198). -/
def execCrucibleWindowAccess (_m : Master) (off : Nat) (wr : Option Word) (ecc : EccResult) (spareBad : Bool) (s : State) : Res :=
  let s := s.begin
  if !s.alive then done s
  else if s.part.cruSize ≤ off then done (s.emit .busError)
  else if !s.domOn pdCru then done (s.emit .domainOff)
  else
    let s := s.when (ecc == .corrected) (·.noteCorrected (off / 8) 72)
    if ecc = .uncorrectable ∨ s.cru.poison.contains (off / 8) then done ((s.emit .busError).cruUncorrectable off)
    else match wr with
      | none => done (s.windowData (off / 4 * 4))
      | some v =>
        let s := s.cruPut (off / 4 * 4) (leBytes v)
        match s.cru.retire with
        | some r => done (s.when (spareBad && !r.march && r.bank == s.bankOf off) (fun s => (s.copyFrom r.bank 1).implicit))
        | none => done s

/-- What the scrub read finds in the word at `off` (R194 to R196). -/
def State.scrubWord (s : State) (off : Nat) (found : ScrubResult) : State :=
  let w := off / 8
  let s := { s with cru := { s.cru with scrubAt := off + 8 } }
  if s.cru.poison.contains w then s.cruUncorrectable off
  else match found with
    | .clean => s
    | .uncorrectable => s.cruUncorrectable off
    | .corrected b =>
      let s := s.noteCorrected w b
      let l := s.bankOf off
      s.when (s.bit aOf.fetCtrl 2) (fun s => (s.repairRow l (s.wordInBank w / 32)).repairColumn l b)

/-- SCRUB_READ (R195, R196): the pass goes over the window in ascending order and reads each word once (DESIGN CHOICE, assumption 111); a word it
has passed is not read again. -/
def execScrubRead (off : Nat) (found : ScrubResult) (s : State) : Res :=
  let s := s.begin
  done (s.when (s.cruOn && s.scrubs && decide (off < s.part.cruSize) && decide (s.cru.scrubAt ≤ off)) (fun s =>
    (s.scrubTo (off / 8 * 8)).scrubWord (off / 8 * 8) found))

/-- The window words of physical bank `ph` whose word within the bank satisfies `p`. -/
def State.ofBank (s : State) (ph : Nat) (p : Nat → Bool) (w : Nat) : Bool :=
  s.logicalOf ph == some (w % s.part.banks) && p (s.wordInBank w)

/-- The Fettler reads words of a bank to copy them (R196, R198): errors are met, uncorrectable words go over as poison. -/
def State.copyWords (s : State) (p : Nat → Bool) (fs : List CruFault) : State :=
  (s.meetFaults (fun off => p (off / 8)) fs).readPoison p

/-- COLUMN_FILL_END (R196): all words of the bank were read and rewritten, and reads use the spare column. -/
def execColumnFillEnd (s : State) (faults : List CruFault := []) : Res :=
  let s := s.begin
  match s.cru.fillRun with
  | some (ph, bit, e) =>
    done (s.when s.cruOn (fun s =>
      (((s.copyWords (s.ofBank ph (fun _ => true)) faults).takeSpare ph e bit).nextColumn).implicit.saveMap))
  | none => done s

/-- ROW_COPY_END (R196): the 32 words of the row were copied and the row remap switches. -/
def execRowCopyEnd (s : State) (faults : List CruFault := []) : Res :=
  let s := s.begin
  match s.cru.rowRun with
  | some (ph, row, e) =>
    done (s.when s.cruOn (fun s =>
      (((s.copyWords (s.ofBank ph (fun w => w / 32 == row)) faults).takeSpare ph e row).raise 460).nextRow.saveMap))
  | none => done s

/-- SCRUB_PASS_END (R195). -/
def execScrubPassEnd (s : State) : Res :=
  let s := s.begin
  done (s.when (s.cruOn && s.scrubs) (·.passEnd))

/-- BANK_RETIRE (R197): a GO while a retirement runs is ignored. -/
def execBankRetire (bank bad : Nat) (s : State) : Res :=
  done (s.begin.access aOf.fetRet (fun s => (s.setF aOf.fetRet 16 7 bank).retireGo bank bad))

/-- RETIREMENT_QUEUED_START (R197). -/
def execRetirementQueuedStart (bad : Nat) (s : State) : Res :=
  let s := s.begin
  match s.cru.retireQ with
  | l :: r => done (s.when (s.cruOn && s.cru.retire.isNone) (fun s =>
      ({ s with cru := { s.cru with retireQ := r } }).startRetire l bad))
  | [] => done s

/-- The copy of a failing bank has ended (R198, R199): both banks hold the same words, the map entry names the spare and the March
of the old bank starts. -/
def State.switchBank (s : State) (r : Retire) : State :=
  let s := ((s.parkBank r.old (s.bankImage r.bank)).nameBank r.bank r.spare).setPstate r.spare 1
  (({ s with cru := { s.cru with retire := some { r with march := true } } }).setPhase 2).raise 457

/-- RETIREMENT_COPY_END (R198, R199): the copy read every word of the bank; a spare that showed an error of its own becomes OUT and
the copy restarts on the next. -/
def execRetirementCopyEnd (s : State) (spareBad : Bool := false) (faults : List CruFault := []) : Res :=
  let s := s.begin
  match s.cru.retire with
  | some r => done (s.when (s.cruOn && !r.march) (fun s =>
      let s := s.copyWords (fun w => w % s.part.banks == r.bank) faults
      if spareBad then (s.copyFrom r.bank 1).implicit else s.switchBank r))
  | none => done s

/-- RETIREMENT_MARCH_END (R199). -/
def execRetirementMarchEnd (pass : Bool) (s : State) : Res :=
  let s := s.begin
  match s.cru.retire with
  | some r => done (s.when (s.cruOn && r.march) (fun s =>
      let s := (s.setPstate r.old (if pass then 2 else 3)).when (!pass) (·.raise 458)
      let s := s.parkBank r.old { fill := if pass then .marched else .failed s.free, cells := [], poison := [] }
      let s := s.when (!pass) (fun s => { s with free := s.free + 262144 })
      (({ s with cru := { s.cru with retire := none } }).setPhase 0).implicit.endTest 4 (!pass)
        (BitVec.ofNat 32 (if pass then 2 else 3)) |>.saveMap))
  | none => done s

/-! ### Tundish (R201 to R205) -/

/-- TUN_LOCKn as its owner + 1, 0 when free. -/
def State.lockOf (s : State) (n : Nat) : Nat := tget (fun _ => 0) s.tun.locks n

/-- Set the owner + 1 of a lock. -/
def State.setLock (s : State) (n v : Nat) : State := { s with tun := { s.tun with locks := tset (fun _ => 0) s.tun.locks n v } }

/-- A read of TUN_LOCKn takes a free lock (R204). -/
def State.lockTake (s : State) (m : Master) (n : Nat) : State :=
  let v := s.lockOf n
  (s.when (v == 0) (·.setLock n (m.num + 1))).emit (.data (BitVec.ofNat 32 v))

/-- A write of the owner's number frees the lock, whoever writes it (R204). -/
def State.lockFree (s : State) (n : Nat) (v : Word) : State := s.when (decide (s.lockOf n = fld v 0 3 + 1)) (·.setLock n 0)

/-- One request of a batch. A read-modify-write of an alias that meets an uncorrectable word writes nothing. -/
def State.tunAccess (s : State) (r : TunReq) : State :=
  let m := r.master.num
  let old := s.tunWord r.word
  let isRead := match r.op with | .read => true | _ => false
  if !s.tunAllowed m r.word (!isRead) then
    let s := s.when isRead (·.emit (.data 0#32))
    (s.emit .busError).tunViolation m r.word
  else
    let reads := match r.op with | .write _ => false | _ => true
    let note (s : State) : State := s.setF aOf.tunEcc 0 17 r.word
    if reads && r.ecc == .uncorrectable then
      ((note (s.bump aOf.tunEcc 20 4 1)).raise 896).emit .busError
    else
      let s := s.when (reads && r.ecc == .corrected) (fun s => note (s.bump aOf.tunEcc 24 8 1))
      match r.op with
      | .read => s.emit (.data old)
      | .write v => s.tunPut r.word v
      | .setBits v => s.tunPut r.word (old ||| v)
      | .clearBits v => s.tunPut r.word (old &&& ~~~v)
      | .lockRead | .lockWrite _ => s

/-- One request of a batch: a lock is served like a word, and open to every master (R204). -/
def State.tunServe (s : State) (r : TunReq) : State :=
  match r.op with
  | .lockRead => s.lockTake r.master r.word
  | .lockWrite v => s.lockFree r.word v
  | _ => s.tunAccess r

/-- The requests of one master, in order, for each master ascending. -/
def batchOrder (rs : List TunReq) : List TunReq := (List.range 6).flatMap (fun m => rs.filter (fun r => r.master.num == m))

/-- TUNDISH_BATCH (R203). -/
def execTundishBatch (reqs : List TunReq) (s : State) : Res :=
  let s := s.begin
  if !s.alive then done s
  else if !s.domOn pdCtrl then done (reqs.foldl (fun s _ => s.emit .domainOff) s)
  else done ((batchOrder reqs).foldl (·.tunServe ·) s)

/-- TUN_LOCK_READ (R204). -/
def execTunLockRead (m : Master) (n : Fin 64) (s : State) : Res :=
  done (s.begin.accessRead (aOf.tunLock n.val) (·.lockTake m n.val))

/-- TUN_LOCK_WRITE (R204). -/
def execTunLockWrite (_m : Master) (n : Fin 64) (v : Word) (s : State) : Res :=
  done (s.begin.access (aOf.tunLock n.val) (·.lockFree n.val v))

/-- TUN_LOCKSTAT(j). -/
def State.lockstatView (s : State) (j : Nat) : Word :=
  BitVec.ofNat 32 ((List.range 32).foldl (fun a k => a + b2n (s.lockOf (32 * j + k) != 0) * 2 ^ k) 0)

/-! ### March runs (R206, R207) -/

/-- A bit of the four words TUN_FREE or TUN_BAD. -/
def State.blockBit (s : State) (base b : Nat) : Bool := s.bit (base + b / 32 * 4) (b % 32)

/-- Block `b` is redirected to the borrow buffer, in which no word is valid yet (R207). -/
def State.borrow (s : State) (b : Nat) : State :=
  { s with tun := { s.tun with borrow := some { block := b, words := [], kept := false } } }

/-- The copy-back: the valid words of the borrow buffer are written back, and redirection ends. -/
def State.copyBack (s : State) : State :=
  match s.tun.borrow with
  | none => s
  | some b =>
    let t := (List.range 1024).foldl (fun s i =>
      match b.word i with | some v => s.tunRawPut (b.block * 1024 + i) v | none => s) s
    { t with tun := { t.tun with borrow := none } }

/-- The March of the borrowed block failed after the copy-in: every word of the buffer is valid, and redirection stays for good. -/
def State.keepBorrow (s : State) : State :=
  match s.tun.borrow with
  | none => s
  | some b =>
    let ws := (List.range 1024).foldr (fun i t => tset (fun _ => none) t i (some (s.tunWord (b.block * 1024 + i)))) []
    { s with tun := { s.tun with borrow := some { b with words := ws, kept := true } } }

/-- A March run over blocks `first` to `last` starts, or is refused; a preserving run borrows its first block. -/
def State.marchOp (s : State) (first last : Nat) (pres : Bool) : State :=
  let s := (((s.setF aOf.tunMarch 0 7 first).setF aOf.tunMarch 16 7 last).setBit aOf.tunMarch 29 pres)
  if s.tun.march.isSome then s
  else
    let blocks := (List.range 128).filter (fun b => decide (first ≤ b) && decide (b ≤ last))
    let ok := if pres then !s.bit aOf.tunMarch 27 else blocks.all (s.blockBit (aOf.tunFree 0))
    if ok then
      let s := ((s.setBit aOf.tunMarch 26 false).setBit aOf.tunMarch 28 false).setBit aOf.tunMarch 30 true
      let s := s.when (pres && decide (first ≤ last)) (·.borrow first)
      { s with tun := { s.tun with march := some { block := first, last := last, preserving := pres } } }
    else s.setBit aOf.tunMarch 26 true

/-- What a destructive March leaves in word `i` of a block that passed: the second background 0 (R206). -/
def marchWord (i : Nat) : Word := if i % 2 = 0 then 0xAAAAAAAA#32 else 0x55555555#32

/-- The contents of a block after a destructive March: the background where it passed, open values where it
failed. -/
def State.marchFill (s : State) (b : Nat) (pass : Bool) : State :=
  let n := s.free
  let s := (List.range 1024).foldl (fun s i =>
    s.tunRawPut (b * 1024 + i) (if pass then marchWord i else Config.measured (n + i))) s
  if pass then s else { s with free := n + 1024 }

/-- MARCH_RUN (R206, R207). -/
def execMarchRun (first last : Nat) (preserving : Bool) (s : State) : Res :=
  done (s.begin.access aOf.tunMarch (·.marchOp first last preserving))

/-- The March of block `b` ended: TUN_BAD, FAIL with event 898. A preserving run copies the block back and borrows the next; a
block that failed stays in the borrow buffer for good, which ends the run. -/
def State.blockDone (s : State) (m : March) (pass : Bool) : State :=
  let b := m.block
  let s := s.when (decide (b < 128)) (·.setBit (aOf.tunBad 0 + b / 32 * 4) (b % 32) (!pass))
  let s := s.when (!m.preserving) (·.marchFill b pass)
  let next (s : State) (n : Nat) : State := { s with tun := { s.tun with march := some { m with block := n } } }
  if pass then
    let s := s.when m.preserving (fun s => s.copyBack.when (decide (b < m.last)) (·.borrow (b + 1)))
    next s (b + 1)
  else
    let s := (s.setBit aOf.tunMarch 28 true).raise 898
    if m.preserving then
      next (s.keepBorrow.setBit aOf.tunMarch 27 true) (m.last + 1)
    else next s (b + 1)

/-- MARCH_BLOCK_DONE (R207). -/
def execMarchBlockDone (pass : Bool) (s : State) : Res :=
  let s := s.begin
  match s.tun.march with
  | some m => done (s.when (s.alive && s.domOn pdCtrl && decide (m.block ≤ m.last)) (·.blockDone m pass))
  | none => done s

/-- The first failed block of the last run; an open value where none failed. -/
def State.firstBad (s : State) : Word :=
  let r := s.rd aOf.tunMarch
  match (List.range 128).find? (fun b => decide (fld r 0 7 ≤ b) && decide (b ≤ fld r 16 7) && s.blockBit (aOf.tunBad 0) b) with
  | some b => BitVec.ofNat 32 b
  | none => Config.measured s.free

/-- MARCH_END (R206). -/
def execMarchEnd (s : State) : Res :=
  let s := s.begin
  match s.tun.march with
  | some m => done (s.when (s.alive && s.domOn pdCtrl && decide (m.last < m.block)) (fun s =>
      let s := (({ s with tun := { s.tun with march := none } }).setBit aOf.tunMarch 30 false).raise 899
      let fail := s.bit aOf.tunMarch 28
      let d := s.firstBad
      s.drawn.endTest (if m.preserving then 1 else 2) fail d))
  | none => done s

end Sys2Proof.Machine
end

