-- ==== Sys2Proof/Machine/Nv.lean ====
section
/-! DEFINITION. The commands of the NV store (R284 to R292, R307): unit writes, window reads, protection, the
wear engine, the event log and the hourly saves. -/

namespace Sys2Proof.Machine

open Sys2Proof

/-- PD_NV can work. -/
def State.nvOn (s : State) : Bool := s.alive && s.domOn pdNv

/-- A write of NVC_WCMD with GO (R284, R286). -/
def State.unitOp (s : State) (a : Nat) : State :=
  let s := s.setF aOf.nvcWcmd 5 15 (a / 32)
  if s.nvRefuses then s.emit .busError
  else if s.nvProtected a then (s.emit .busError).raise 837
  else if 4 ≤ s.nv.queue.length then s.emit .busError
  else
    let bs := (List.range 8).flatMap (fun i => leBytes (s.rd (aOf.nvcWdata i)))
    ({ s with nv := { s.nv with queue := s.nv.queue ++ [(a, bs)] } }).showQueue

/-- NV_UNIT_WRITE (R284, R286). -/
def execNvUnitWrite (_m : Master) (unit : Nat) (s : State) : Res :=
  done (s.begin.access aOf.nvcWcmd (·.unitOp (unit * 32)))

/-- The oldest unit of the queue is written. -/
def State.unitDone (s : State) : State :=
  match s.nv.queue with
  | [] => s
  | (a, bs) :: r => (({ s with nv := { s.nv with queue := r } }).nvPut a bs).showQueue

/-- NV_UNIT_DONE (R284): the oldest unit stands in the array; the wear engine and the queue take turns, unit by unit. -/
def execNvUnitDone (s : State) : Res :=
  let s := s.begin
  done (s.when s.nvOn (fun s => s.unitDone.wearUnit))

/-- Add a group to a list, once. -/
def addGroup (g : Nat) (l : List Nat) : List Nat := if l.contains g then l else g :: l

/-- The group of a byte holds what SECDED finds there: a single-bit error until it is written back, or an uncorrectable one until it
is written (R287). -/
def State.nvMark (s : State) (a : Nat) : EccResult → State
  | .clean => s
  | .corrected => { s with nv := { s.nv with weak := addGroup (a / 8) s.nv.weak } }
  | .uncorrectable => { s with nv := { s.nv with bad := addGroup (a / 8) s.nv.bad } }

/-- An uncorrectable group was read: NVC_ECC and event 833 (R287). -/
def State.nvUncorrectable (s : State) (a : Nat) : State := ((s.bump aOf.nvcEcc 20 4 1).setF aOf.nvcEcc 0 20 a).raise 833

/-- A single-bit error was corrected in a read: NVC_ECC and event 832; the group is written back unless it is protected (R287). -/
def State.nvCorrected (s : State) (a : Nat) : State :=
  let s := s.when (!s.nvProtected a) (fun s => { s with nv := { s.nv with weak := s.nv.weak.filter (· != a / 8) } })
  ((s.bump aOf.nvcEcc 24 8 1).setF aOf.nvcEcc 0 20 a).raise 832

/-- A word of the array is read (R285, R287), once its page is not busy; none where its group is uncorrectable. -/
def State.nvFetch (s : State) (a : Nat) : State × Option Word :=
  let s := s.nvStall a
  if s.nv.bad.contains (a / 8) then (s.nvUncorrectable a, none)
  else (s.when (s.nv.weak.contains (a / 8)) (·.nvCorrected a), some (s.nvWord a))

/-- The same through the read window. -/
def State.nvDeliver (s : State) (a : Nat) : State :=
  match s.nvFetch a with
  | (s, some v) => s.emit (.data v)
  | (s, none) => s.emit .busError

/-- NV_WINDOW_READ (R285, R287): a read of a busy page is held and served once its units are written. -/
def execNvWindowRead (_m : Master) (addr : Nat) (ecc : EccResult) (s : State) : Res :=
  let s := s.begin
  if !s.alive then done s
  else if 0x100000 ≤ addr then done (s.emit .busError)
  else if !s.domOn pdNv then done (s.emit .domainOff)
  else done ((s.nvMark addr ecc).nvDeliver addr)

/-- NVC_CTRL LOCK is set. -/
def State.lockOp (s : State) : State := s.setBit aOf.nvcCtrl 31 true

/-- NV_LOCK (R286). -/
def execNvLock (s : State) : Res := done (s.begin.access aOf.nvcCtrl (·.lockOp))

/-- NVC_WEAR GO (R291): ignored while BUSY, refused during a power-fail save, DOMAIN_OFF where PD_CRU is not ON. -/
def State.wearGo (s : State) : State :=
  if s.nv.wear then s
  else if s.nvRefuses then s.emit .busError
  else if !s.domOn pdCru then s.emit .domainOff
  else (({ s with nv := { s.nv with wear := true, wearAt := 0 } }).setBit aOf.nvcWear 30 true).implicit

/-- WEAR_SAVE (R291). -/
def execWearSave (s : State) : Res := done (s.begin.access aOf.nvcWear (·.wearGo))

/-- What NV_SAVE_NOW answers (R258): the wear copy in force and its sequence. -/
def State.saveWords (s : State) : List Word := [BitVec.ofNat 32 (s.f aOf.nvcWear 0 1), s.rd aOf.nvcWseq]

/-- A window offset lies in the thermal area. -/
def State.inThermal (s : State) (off : Nat) : Bool := decide (s.part.tileBase ≤ off) && decide (off < s.part.tileBase + s.part.slots * 16)

/-- The wear record is written from unit `k` on; a stress counter that reads uncorrectable leaves its group of the copy
uncorrectable (R194). -/
def State.saveWear (s : State) (k : Nat) : State × Bool :=
  let c := s.wearCopy
  let r := s.writeWear k
  let bad := r.1.cru.poison.filter (fun w => s.inThermal (w * 8) && w % 2 == 1)
  if r.2 then
    (bad.foldl (fun s w =>
      let p := (w * 8 - s.part.tileBase) / 16
      (s.cruUncorrectable (w * 8)).nvMark (recBody 4 c + 4 * (p / s.part.tileCols * 512 + p % s.part.tileCols)) .uncorrectable) r.1, true)
  else r

/-- NV_WEAR_DONE (R291): the header is written, NVC_WEAR and NVC_WSEQ follow, event 838. -/
def execNvWearDone (s : State) (faults : List CruFault := []) : Res :=
  let s := s.begin
  done (s.when (s.nvOn && s.nv.wear) (fun s =>
    let (s, ok) := (s.meetFaults s.inThermal faults).saveWear s.nv.wearAt
    let s := ((({ s with nv := { s.nv with wear := false } }).setBit aOf.nvcWear 30 false).implicit).raise 838
    s.answerWhere (fun r => match r.wait with | .nvSave _ => true | _ => false) (if ok then stOk else stFault) (fun s _ => s.saveWords)))

/-- LOG_APPEND (R292): refused while a power-fail save runs. -/
def execLogAppend (s : State) : Res :=
  let s := s.begin
  done (s.when (s.fwRuns && !s.nvRefuses) (·.logAppend))

/-- LIT_HOUR_SAVE (R307): another 3,600 s of PWR_LITSEC have passed. -/
def execLitHourSave (s : State) : Res :=
  let s := s.begin
  let lit := (s.rd aOf.pwrLitsec).toNat
  done (s.when (s.fwRuns && !s.nvRefuses && decide (3600 ≤ lit - s.fw.litSaved)) (fun s =>
    let s := { s with fw := { s.fw with litSaved := lit } }
    (s.saveHours.when (s.domOn pdCru) (·.wearGo))))

end Sys2Proof.Machine
end

