-- ==== Sys2Proof/Machine/PourOps.lean ====
section
/-! DEFINITION. The pour engine's operations (R55 to R83): geometry and payload lengths (Table 03-3),
acceptance in the order of R81, resources (R71, R72), landing of canvas data (R66), table writes (R68),
the commit rule (R73), results (R80). -/

namespace Sys2Proof

/-! ### What an opcode is (Tables 03-3 and 03-5) -/

/-- The pour classes of Table 03-5. -/
inductive PourClass | tile | store | table | segment | mask | control
deriving DecidableEq, Repr

/-- The class of an opcode. -/
def PourOp.cls : PourOp → PourClass
  | .writeRect | .fillRect => .tile
  | .patternWrite | .glyphWrite => .store
  | .layerSet | .meshWrite | .tableWrite => .table
  | .segWrite => .segment
  | .maskSet | .maskClear => .mask
  | .fence | .abort => .control

/-- X0 of a header. -/
def PourHdr.x0 (h : PourHdr) : Nat := fld h.w2 16 16
/-- Y0 of a header. -/
def PourHdr.y0 (h : PourHdr) : Nat := fld h.w2 0 16
/-- WIDTH of a header. -/
def PourHdr.wd (h : PourHdr) : Nat := fld h.w3 16 16
/-- HEIGHT of a header. -/
def PourHdr.ht (h : PourHdr) : Nat := fld h.w3 0 16
/-- LAST. -/
def PourHdr.last (h : PourHdr) : Bool := h.flags.getLsbD 0
/-- STRICT. -/
def PourHdr.strict (h : PourHdr) : Bool := h.flags.getLsbD 1
/-- SWITCH. -/
def PourHdr.switch (h : PourHdr) : Bool := h.flags.getLsbD 2
/-- QUIET. -/
def PourHdr.quiet (h : PourHdr) : Bool := h.flags.getLsbD 3

/-- The code of an opcode in Table 03-3. -/
def PourOp.code : PourOp → BitVec 8
  | .writeRect => 0x01#8 | .fillRect => 0x02#8 | .maskSet => 0x10#8 | .maskClear => 0x11#8 | .patternWrite => 0x20#8
  | .glyphWrite => 0x21#8 | .layerSet => 0x30#8 | .meshWrite => 0x31#8 | .tableWrite => 0x32#8 | .segWrite => 0x40#8
  | .fence => 0x7E#8 | .abort => 0x7F#8

/-- The opcode a code of Table 03-3 names. -/
def pourOpOf (c : BitVec 8) : Option PourOp :=
  match c.toNat with
  | 0x01 => some .writeRect | 0x02 => some .fillRect | 0x10 => some .maskSet | 0x11 => some .maskClear
  | 0x20 => some .patternWrite | 0x21 => some .glyphWrite | 0x30 => some .layerSet | 0x31 => some .meshWrite
  | 0x32 => some .tableWrite | 0x40 => some .segWrite | 0x7E => some .fence | 0x7F => some .abort
  | _ => none

/-- The header passes R58: version 0x01, an opcode of Table 03-3 and no reserved flag. -/
def PourHdr.good (h : PourHdr) : Bool :=
  h.version == 0x01#8 && (pourOpOf h.opcode).isSome && decide (h.flags.toNat < 16)

/-- A fragment with the opcode of the command that names it. -/
def PourFrag.ofOp (op : PourOp) (f : PourFrag) : PourFrag := { f with hdr := { f.hdr with opcode := op.code } }

end Sys2Proof

namespace Sys2Proof.Machine

open Sys2Proof

/-- Total payload length in bytes (R61, Table 03-3). -/
def payloadLen (op : PourOp) (h : PourHdr) : Nat :=
  match op with
  | .writeRect => h.wd * h.ht * 2
  | .fillRect => 4
  | .maskSet => h.wd * 24
  | .patternWrite | .glyphWrite | .tableWrite => h.w3.toNat
  | .layerSet => h.wd * 8
  | .meshWrite => h.wd * h.ht * 4
  | .segWrite => h.wd * h.ht
  | .maskClear | .fence | .abort => 0

/-- TARGET and FORMAT as Table 03-3 has them; a TABLE_WRITE's TARGET is judged by R60. -/
def codesOk (op : PourOp) (h : PourHdr) : Bool :=
  let t := h.target.toNat
  let f := h.format.toNat
  match op with
  | .writeRect | .fillRect | .patternWrite => t == 0 && f == 0x10
  | .glyphWrite => t == 0 && f == 0x08
  | .segWrite => t == 0 && f == 0x04
  | .meshWrite => decide (t ≤ 3) && f == 0
  | .tableWrite => (tableOf t).isSome && f == 0
  | .maskSet | .maskClear | .layerSet | .fence | .abort => t == 0 && f == 0

/-- The geometry fields lie in range (R59, R60). -/
def geometryOk (p : Part) (op : PourOp) (h : PourHdr) : Bool :=
  let off := h.w2.toNat
  let len := h.w3.toNat
  match op with
  | .writeRect | .fillRect =>
    decide (1 ≤ h.wd) && decide (1 ≤ h.ht) && decide (h.x0 + h.wd ≤ p.gridW) && decide (h.y0 + h.ht ≤ p.gridH)
  | .maskSet | .maskClear =>
    decide (1 ≤ h.wd) && decide (h.wd ≤ 256) && decide (h.x0 + h.wd ≤ 256) && h.y0 == 0 && h.ht == 0
  | .patternWrite => off % 2 == 0 && len % 2 == 0 && decide (off + len ≤ p.patternSize)
  | .glyphWrite => off % 4 == 0 && len % 4 == 0 && decide (off + len ≤ glyphSize)
  | .layerSet => decide (1 ≤ h.wd) && decide (h.wd ≤ 16) && decide (h.x0 + h.wd ≤ 16) && h.y0 == 0 && h.ht == 0
  | .meshWrite => decide (h.x0 + h.wd ≤ 65) && decide (h.y0 + h.ht ≤ 17)
  | .tableWrite => off % 4 == 0 && len % 4 == 0 &&
      (match tableOf h.target.toNat with | some t => decide (off + len ≤ t.2) | none => false)
  | .segWrite => decide (h.x0 + h.wd ≤ 96) && decide (h.y0 + h.ht ≤ 8)
  | .fence => off == 0 && len == 0
  | .abort => h.y0 == 0 && len == 0

/-! ### Runners and resources -/

/-- The tiles a rectangle touches, in row-major order of tiles. -/
def tilesOf (h : PourHdr) : List Nat :=
  let tx := h.x0 / 8
  let ty := h.y0 / 8
  let nx := (h.x0 + h.wd - 1) / 8 - tx + 1
  let ny := (h.y0 + h.ht - 1) / 8 - ty + 1
  (List.range ny).flatMap (fun j => (List.range nx).map (fun i => (ty + j) * 512 + tx + i))

/-- The rectangle covers every pixel of a tile. -/
def coversTile (h : PourHdr) (t : Nat) : Bool :=
  decide (h.x0 ≤ t % 512 * 8) && decide (t % 512 * 8 + 8 ≤ h.x0 + h.wd) &&
  decide (h.y0 ≤ t / 512 * 8) && decide (t / 512 * 8 + 8 ≤ h.y0 + h.ht)

/-- The rectangle covers pixel (x, y). -/
def coversPixel (h : PourHdr) (x y : Nat) : Bool :=
  decide (h.x0 ≤ x) && decide (x < h.x0 + h.wd) && decide (h.y0 ≤ y) && decide (y < h.y0 + h.ht)

/-- The segment runners a SEG_WRITE enters: blocks of 8 segments. -/
def segBlocks (h : PourHdr) : List Nat :=
  if h.wd = 0 then [] else (List.range 12).filter (fun b => decide (h.x0 / 8 ≤ b) && decide (b ≤ (h.x0 + h.wd - 1) / 8))

/-- Tiles that take a slot: all touched, except those a FILL_RECT covers in full (R66). -/
def slotTiles (op : PourOp) (h : PourHdr) : List Nat :=
  match op with
  | .writeRect => tilesOf h
  | .fillRect => (tilesOf h).filter (fun t => !coversTile h t)
  | _ => []

/-- Shadow slots a pour reserves (R71). -/
def slotsNeeded (op : PourOp) (h : PourHdr) : Nat :=
  match op.cls with
  | .tile => (slotTiles op h).length
  | .store | .table | .segment => ceilDiv (payloadLen op h) 128
  | .mask | .control => 0

/-- Runner entries a pour takes (R65). -/
def entriesNeeded (op : PourOp) (h : PourHdr) : Nat :=
  match op.cls with
  | .tile => (tilesOf h).length
  | .store | .table => 1
  | .segment => (segBlocks h).length
  | .mask | .control => 0

/-- Bytes of the mask buffer a pour takes. -/
def maskBytes (op : PourOp) (h : PourHdr) : Nat := if op.cls = .mask then payloadLen op h else 0

/-- A pour in flight that still holds its resources. -/
def Pour.holds (p : Pour) : Bool := p.phase != .flushed

/-- Slots a pour in flight holds by count: those of store, table and segment pours. -/
def Pour.countSlots (p : Pour) : Nat := if p.holds && p.op.cls != .tile then p.slots else 0

/-- The slots actually free in the pool (R71). -/
def State.freeSlots (s : State) : Nat :=
  s.part.slots + 8192 - s.pour.fresh + s.pour.recycled.length - (s.pour.flight.map Pour.countSlots).sum

/-- Pours in flight that hold a place. -/
def State.places (s : State) (injected : Bool) : Nat :=
  (s.pour.flight.filter (fun p => p.holds && p.key.injected == injected)).length

/-- Free pour places of the whole pool. -/
def State.freePlaces (s : State) : Nat := 4096 - s.places false - s.places true

/-- Slots the injected pours hold. -/
def State.injectedSlots (s : State) : Nat :=
  ((s.pour.flight.filter (fun p => p.holds && p.key.injected)).map (fun p =>
    if p.op.cls = .tile then p.slotOf.length else p.slots)).sum

/-- The part of the reserve that injected pours are not using: rp places and rs slots (R72). -/
def State.reserve (s : State) : Nat × Nat := (64 - s.places true, 64 - s.injectedSlots)

/-- POUR_CREDIT: free places and free slots, within the range of the register (assumption 8). -/
def State.creditView (s : State) : Word :=
  BitVec.ofNat 32 (s.freePlaces * 65536 + min s.freeSlots 8192)

/-- The resources of R72 are there. -/
def State.resourcesOk (s : State) (injected : Bool) (op : PourOp) (h : PourHdr) : Bool :=
  let need := slotsNeeded op h
  let held := s.pour.flight.filter Pour.holds
  (if injected then decide (need ≤ s.reserve.2) && decide (0 < s.reserve.1)
   else decide (need + s.reserve.2 ≤ s.freeSlots) && decide (s.reserve.1 < s.freePlaces)) &&
  decide (entriesNeeded op h + (held.map (fun p => entriesNeeded p.op p.hdr)).sum ≤ 4 * s.part.slots) &&
  decide (maskBytes op h + (held.map (fun p => maskBytes p.op p.hdr)).sum ≤ 16384)

/-- Take `n` slots: returned ones first, then never used ones (assumption 8). -/
def State.takeSlots (s : State) : Nat → State × List Nat
  | 0 => (s, [])
  | n + 1 =>
    match s.pour.recycled with
    | r :: rs =>
      let (t, l) := State.takeSlots { s with pour := { s.pour with recycled := rs } } n
      (t, r :: l)
    | [] =>
      let (t, l) := State.takeSlots { s with pour := { s.pour with fresh := s.pour.fresh + 1 } } n
      (t, s.pour.fresh :: l)

/-- Slots return to the pool. -/
def State.giveSlots (s : State) (l : List Nat) : State :=
  { s with pour := { s.pour with recycled := l ++ s.pour.recycled } }

/-! ### Results (R80) -/

/-- The code of a status of Table 03-6. -/
inductive PSt | ok | busy | invalid | absent | alreadyCommitted | aborted | timeout | noResource | stale | fault | late
deriving DecidableEq, Repr

/-- Its number. -/
def PSt.code : PSt → Nat
  | .ok => 0 | .busy => 1 | .invalid => 2 | .absent => 3 | .alreadyCommitted => 5 | .aborted => 6
  | .timeout => 7 | .noResource => 8 | .stale => 9 | .fault => 10 | .late => 11

/-- The frame number a result carries when no commit point gave one: the frame in S1. -/
def State.frameNo (s : State) : Word := s.pipe.tag.number

/-- A record enters the result FIFO of 1,024, or is dropped and counted in LOST with event 129. -/
def State.pushResult (s : State) (r : PourResult) : State :=
  if s.pour.results.length < 1024 then { s with pour := { s.pour with results := s.pour.results ++ [r] } }
  else (s.bump aOf.pourResstat 16 12 1).raise 129

/-- A pour ends with a status: its record, unless it is OK, not late and QUIET; firmware acts on the end of
a pour it injected. -/
def State.record (s : State) (key : PourKey) (port : Port) (quiet late : Bool) (st : PSt) (frame : Word) : State :=
  let s := if st = .ok ∧ ¬ late ∧ quiet then s
    else s.pushResult { id := key.id, status := st.code, inj := key.injected, port := port, late := late, frame := frame }
  s.when key.injected (·.injectedEnded key.id st.code frame)

/-- The pour in flight with a key, removed ones of a flush apart. -/
def State.findPour (s : State) (k : PourKey) : Option Pour :=
  s.pour.flight.find? (fun p => p.holds && decide (p.key = k))

/-- Replace a pour in flight. -/
def State.putPour (s : State) (q : Pour) : State :=
  { s with pour := { s.pour with flight := s.pour.flight.map (fun p => if p.holds ∧ p.key = q.key then q else p) } }

/-- Take a pour out of flight. -/
def State.dropPour (s : State) (k : PourKey) : State :=
  { s with pour := { s.pour with flight := s.pour.flight.filter (fun p => !(p.holds && decide (p.key = k))) } }

/-- Put back the set bytes that a written, uncommitted SWITCH pour replaced (assumption 9). -/
def State.undoTable (s : State) (u : List (Nat × List Byte)) : State :=
  u.foldl (fun s c => s.cruPut c.1 c.2) s

/-- The records of pours a flush removed enter while every pour ahead has ended (R83). -/
def drainFlushed : Nat → State → State
  | 0, s => s
  | n + 1, s =>
    match s.pour.flight with
    | p :: r =>
      if p.phase = .flushed then
        drainFlushed n (({ s with pour := { s.pour with flight := r } }).record p.key p.port p.hdr.quiet p.late .aborted s.frameNo)
      else s
    | [] => s

/-- Let waiting flush records enter. -/
def State.settle (s : State) : State := drainFlushed s.pour.flight.length s

/-- Resources of a pour that ends without committing return; the pairs its regions would have overloaded keep FOK. -/
def State.freePour (s : State) (p : Pour) : State :=
  let s := (s.undoTable p.undo).giveSlots (p.slotOf.map (·.2))
  match p.undoFok with
  | some l => { s with pour := { s.pour with fokClear := l } }
  | none => s

/-- A pour in flight ends without committing. -/
def State.failPour (s : State) (p : Pour) (st : PSt) : State :=
  (((s.freePour p).dropPour p.key).record p.key p.port p.hdr.quiet p.late st s.frameNo).settle

/-- A pour in flight ends OK, its slots of count class freed with it. -/
def State.okPour (s : State) (p : Pour) : State :=
  ((s.dropPour p.key).record p.key p.port p.hdr.quiet p.late .ok (p.frame.getD s.frameNo)).settle

/-- A host pour passed its commit point: the last 4,096 are kept (R76). -/
def State.commitId (s : State) (p : Pour) : State :=
  if p.key.injected then s
  else { s with pour := { s.pour with committed := (p.key.id :: s.pour.committed).take 4096 } }

/-! ### Payload byte order (R59) -/

/-- 16-bit codes from network to internal order. -/
def swap2 : List Byte → List Byte
  | a :: b :: r => b :: a :: swap2 r
  | l => l

/-- 32-bit words from network to internal order. -/
def swap4 : List Byte → List Byte
  | a :: b :: c :: d :: r => d :: c :: b :: a :: swap4 r
  | l => l

/-- The bytes a store pour copies, in internal order: glyph directory words below offset 8,192. -/
def storeBytes (op : PourOp) (off : Nat) (bs : List Byte) : List Byte :=
  match op with
  | .glyphWrite => swap4 (bs.take (8192 - off)) ++ bs.drop (8192 - off)
  | _ => swap2 bs

/-! ### Canvas data (R66) -/

/-- The slot a pour holds for a tile. -/
def Pour.slot (p : Pour) (t : Nat) : Option Nat := (p.slotOf.find? (fun e => e.1 == t)).map (·.2)

/-- Write one pixel of a pour into the slot of its tile. -/
def State.landPixel (s : State) (p : Pour) (x y code : Nat) : State :=
  match p.slot (tileOf x y) with
  | none => s
  | some n =>
    s.cruPut (s.part.slotPixel n (y % 8 * 8 + x % 8)) [BitVec.ofNat 8 code, BitVec.ofNat 8 (code / 256)]

/-- Pixels number `i` to `i + n - 1` of a WRITE_RECT land as their bytes arrive. -/
def State.landRun (s : State) (p : Pour) (i n : Nat) : State :=
  (List.range n).foldl (fun s j =>
    let k := i + j
    s.landPixel p (p.hdr.x0 + k % p.hdr.wd) (p.hdr.y0 + k / p.hdr.wd) (beHalfAt p.payload (k * 2))) s

/-- The code of a FILL_RECT. -/
def fillCode (bs : List Byte) : Nat := beHalfAt bs 2

/-- A FILL_RECT's code lands in the covered pixels of its partial tiles. -/
def State.landFill (s : State) (p : Pour) : State :=
  p.slotOf.foldl (fun s e =>
    (List.range 64).foldl (fun s k =>
      let x := e.1 % 512 * 8 + k % 8
      let y := e.1 / 512 * 8 + k / 8
      s.when (coversPixel p.hdr x y) (fun s => s.landPixel p x y (fillCode p.payload))) s) s

/-- The bytes of a pour from `before` on have arrived. -/
def State.land (s : State) (p : Pour) (before : Nat) : State :=
  match p.op with
  | .writeRect => s.landRun p (before / 2) (p.payload.length / 2 - before / 2)
  | .fillRect => s.when (decide (4 ≤ p.payload.length)) (·.landFill p)
  | _ => s

/-- A window offset lies in the slot that holds a tile's content. -/
def State.inTile (s : State) (t off : Nat) : Bool :=
  let e := s.mapEntry t
  !bitOf e 31 && decide (off / 128 * 128 = s.part.slotPixel (fld e 0 17) 0)

/-- The merge of a partial tile: the pixels the pour does not write come from the tile's content. -/
def State.mergeTile (s : State) (p : Pour) (t : Nat) : State :=
  match p.slot t with
  | none => s
  | some n =>
    let free (k : Nat) : Bool := !coversPixel p.hdr (t % 512 * 8 + k % 8) (t / 512 * 8 + k / 8)
    let s := (List.range 64).foldl (fun s k =>
      s.when (free k) (fun s =>
        let c := s.tilePixel t k
        s.cruPut (s.part.slotPixel n k) [BitVec.ofNat 8 c, BitVec.ofNat 8 (c / 256)])) s
    let e := s.mapEntry t
    s.when (!bitOf e 31) (fun s => s.carryPoison (s.part.slotPixel (fld e 0 17) 0) (s.part.slotPixel n 0) 128
      (fun o => (List.range 4).any (fun j => free (o / 2 + j))))

/-- A tile pour becomes visible: each tile's map entry names the pour's slot, or the uniform code; the
slot that held the tile's previous content returns to the pool (R71). -/
def State.commitTiles (s : State) (p : Pour) : State :=
  p.tiles.foldl (fun s t =>
    let old := s.mapEntry t
    let s := s.setMapEntry t (match p.slot t with
      | some n => BitVec.ofNat 32 n
      | none => BitVec.ofNat 32 (2 ^ 31 + fillCode p.payload))
    s.when (!bitOf old 31) (·.giveSlots [fld old 0 17])) s

/-! ### Order of pours (R65, R73, R75) -/

/-- The pours ahead of a key in stream order. -/
def State.ahead (s : State) (k : PourKey) : List Pour :=
  (s.pour.flight.takeWhile (fun p => !(p.holds && decide (p.key = k)))).filter Pour.holds

/-- Two pours share a runner. -/
def sharesRunner (a b : Pour) : Bool :=
  match a.op.cls, b.op.cls with
  | .tile, .tile => a.tiles.any (fun t => b.tiles.contains t)
  | .store, .store | .store, .table | .table, .store | .table, .table => true
  | .segment, .segment => (segBlocks a.hdr).any (fun t => (segBlocks b.hdr).contains t)
  | _, _ => false

/-- A FENCE ahead has not completed. -/
def State.fenced (s : State) (k : PourKey) : Bool := (s.ahead k).any (fun q => q.op == .fence)

/-- Every pour ahead in each of its runners has ended. -/
def State.runnersClear (s : State) (p : Pour) : Bool := !(s.ahead p.key).any (fun q => sharesRunner q p)

/-- No tile carries a waveform tag with BUSY above 0 that names set `b` (R69, R101). The walk runs over the
Crucible's listed bytes, since an unlisted tag is 0. -/
def State.tagsClear (s : State) (b : Bool) : Bool :=
  let base := s.part.tileBase + s.part.slots * 60
  s.cru.cells.all (fun e =>
    if base ≤ e.1 ∧ e.1 < base + s.part.slots * 2 then
      let t := s.cruHalf (base + (e.1 - base) / 2 * 2)
      t / 16 % 128 == 0 || decide (t % 2 ≠ b2n b)
    else true)

/-- The inactive table set is free (R69). -/
def State.inactiveFree (s : State) : Bool :=
  !s.pour.syncBusy && (s.lf aOf.pipeCtrl 0 1 == 0 || s.lf aOf.pipeCtrl 2 1 == 0 || s.tagsClear (!s.beam.setB))

/-- A table pour's write can start (R68), launch time apart. Without SWITCH the start is its commit point, which waits for
every FENCE ahead (R75); a SWITCH pour is only written here and commits at its edge. -/
def State.canWrite (s : State) (p : Pour) : Bool :=
  p.op.cls == .table && p.phase == .waiting && p.complete && s.runnersClear p && (p.hdr.switch || !s.fenced p.key) &&
  (s.inactiveFree || (p.hdr.switch && payloadLen p.op p.hdr == 0 && !s.pour.syncBusy))

/-! ### Table writes (R68) -/

/-- The byte ranges a table pour writes, as offsets in a set with their bytes in internal order. -/
def tableChunks (p : Pour) : List (Nat × List Byte) :=
  let bs := swap4 p.payload
  match p.op with
  | .layerSet => [(offLayers + p.hdr.x0 * 8, bs)]
  | .meshWrite => (List.range p.hdr.ht).map (fun j =>
      (offMesh + p.hdr.target.toNat * 4420 + ((p.hdr.y0 + j) * 65 + p.hdr.x0) * 4,
       (bs.drop (j * p.hdr.wd * 4)).take (p.hdr.wd * 4)))
  | .tableWrite =>
    match tableOf p.hdr.target.toNat with
    | some t => [(t.1 + p.hdr.w2.toNat, bs)]
    | none => []
  | _ => []

/-- Write chunks into a table set. -/
def State.putChunks (s : State) (b : Bool) (cs : List (Nat × List Byte)) : State :=
  cs.foldl (fun s c => s.cruPut (s.part.setBase b + c.1) c.2) s

/-- Records of a size from which a byte range takes in any. -/
def touched (off len size count : Nat) : List Nat :=
  (List.range count).filter (fun i => overlap off len (i * size) size)

/-- A region pour checked against the rest of the configuration: admissible at the period and operating
point in force, every lane within R138, and every pair on one lane with FOK within its check. -/
def State.regionLoadOk (s : State) (b : Bool) : Bool :=
  let g := s.view
  s.admissible b s.periodInForce s.op && s.lanesOk g b s.periodInForce s.op &&
  (List.range 32).all (fun k =>
    !(bitOf (g (aOf.lnkPair k)) 0) || s.pairOk g b k s.periodInForce s.op ||
      (s.f (aOf.lnkPair k) 2 2 != 1 && s.f (aOf.lnkPair k) 2 2 != 2))

/-- The pairs whose FOK falls when the regions of set `b` become active. -/
def State.fokLost (s : State) (b : Bool) : List Nat :=
  (List.range 32).filter (fun k =>
    bitOf (s.view (aOf.lnkPair k)) 0 && !s.pairOk s.view b k s.periodInForce s.op)

/-- The content of a table pour passes R33, R35, R40, R41 and R45, judged on the set as it would stand
after the write; `s` has the pour written into set `b`. -/
def State.tableOk (s : State) (b : Bool) (p : Pour) : Bool :=
  match p.op with
  | .layerSet => (List.range p.hdr.wd).all (fun i => (s.layer b (p.hdr.x0 + i)).ok)
  | .meshWrite =>
    let g := s.region b p.hdr.target.toNat
    p.hdr.wd == 0 || p.hdr.ht == 0 ||
      (decide (p.hdr.x0 + p.hdr.wd - 1 ≤ ceilDiv g.w 64) && decide (p.hdr.y0 + p.hdr.ht - 1 ≤ ceilDiv g.h 64))
  | .tableWrite =>
    match p.hdr.target.toNat with
    | 0x01 => s.regionsOk b && s.regionLoadOk b
    | 0x02 => (touched p.hdr.w2.toNat p.hdr.w3.toNat 16 8).all (fun k => (s.pattern b k).ok s.part)
    | 0x04 => s.targetsOk b
    | _ => true
  | _ => true

/-- The write of a table pour starts, its commit point without SWITCH; content that fails ends it INVALID
with nothing written. -/
def State.startWrite (s : State) (p : Pour) : State :=
  let b := !s.beam.setB
  let after := s.putChunks b (tableChunks p)
  if after.tableOk b p then
    let p := { p with phase := .writing, frame := if p.hdr.switch then none else some s.frameNo }
    s.putPour p |>.when (!p.hdr.switch) (·.commitId p)
  else s.failPour p .invalid

/-- The write of a table pour ends: its bytes stand in the inactive set and their ranges join the next
set sync. Without SWITCH the pour completes; with it, it waits for its edge. -/
def State.endWrite (s : State) (p : Pour) : State :=
  let b := !s.beam.setB
  let cs := tableChunks p
  let undo := (cs.map (fun c =>
    let a := s.part.setBase b + c.1
    (a, s.cruBytes a c.2.length))).reverse
  let fok := s.pour.fokClear
  let s := s.putChunks b cs
  let s := { s with pour := { s.pour with written := s.pour.written ++ cs.map (fun (c : Nat × List Byte) => (c.1, c.2.length)) } }
  let s := s.when (p.op == .tableWrite && p.hdr.target.toNat == 1) (fun s =>
    { s with pour := { s.pour with fokClear := s.fokLost b } })
  if p.hdr.switch then s.putPour { p with phase := .written, undo := undo, undoFok := some fok, slots := 0 } else s.okPour p

/-- A set switch takes effect: event 199, the set sync begins, and pairs the new regions overload lose
FOK (R68, R69, R105). -/
def State.switchSet (s : State) : State :=
  let s := { s with beam := { s.beam with setB := !s.beam.setB } }
  let s := s.pour.fokClear.foldl (fun s k => s.when (decide (k < 32)) (·.setBit (aOf.lnkPair k) 0 false)) s
  let s := { s with pour := { s.pour with syncing := s.pour.written, written := [], syncBusy := true, fokClear := [] } }
  s.raise 199

/-! ### The commit rule (R73) -/

/-- A pour is ready at an edge; a table pour without SWITCH is ready when its write can start. -/
def State.ready (s : State) (p : Pour) : Bool :=
  match p.op.cls with
  | .tile => p.complete && p.merges.isEmpty && s.runnersClear p && !s.fenced p.key
  | .store => p.phase == .waiting && p.complete && s.runnersClear p && !s.fenced p.key
  | .table =>
    if p.hdr.switch then
      (p.phase == .written || (p.phase == .waiting && p.complete && payloadLen p.op p.hdr == 0)) &&
        s.runnersClear p && !s.fenced p.key && !s.pour.syncBusy
    else s.canWrite p
  | _ => false

/-- A ready pour commits at the edge: visible to the frame the edge starts. SWITCH belongs to table pours; on another it is
accepted and does nothing (DESIGN CHOICE, assumption 107). -/
def State.commit (s : State) (p : Pour) : State :=
  let p := { p with frame := some s.frameNo }
  match p.op.cls with
  | .tile => ((s.commitTiles p).commitId p).okPour { p with slotOf := [] }
  | .store =>
    let used := if p.op = .glyphWrite then s.glyphInUse p.hdr.w2.toNat p.hdr.w3.toNat
      else s.patternInUse p.hdr.w2.toNat p.hdr.w3.toNat
    if used then s.failPour p .busy else (s.commitId p).putPour { p with phase := .copying }
  | .table => if p.hdr.switch then (s.switchSet.commitId p).okPour p else s.startWrite p
  | _ => s

/-- A FENCE completes: every pour ahead of it has ended and no set sync runs (R75). -/
def State.fenceReady (s : State) (p : Pour) : Bool :=
  p.op == .fence && p.complete && !s.pour.syncBusy &&
  !(s.ahead p.key).any (fun q => q.op.cls != .mask && q.op.cls != .control) && !s.fenced p.key

/-- A FENCE ends OK. -/
def State.endFence (s : State) (p : Pour) : State := (s.commitId p).okPour { p with frame := none }

/-- One waiting pour at the edge te (the loop body of R73). -/
def State.edgePour (s : State) (te : Word) (k : PourKey) : State :=
  match s.findPour k with
  | none => s
  | some p =>
    if p.op = .fence then s.when (s.fenceReady p) (·.endFence p)
    else if (p.op.cls = .tile ∨ p.op.cls = .store ∨ p.op.cls = .table) ∧ (p.phase = .waiting ∨ p.phase = .written ∨ (p.phase = .writing ∧ p.hdr.switch)) then
      let dueNow := match p.launch with | none => true | some l => dueAt l te
      let first := !p.seenDue && dueNow
      let p := { p with seenDue := p.seenDue || dueNow }
      let s := s.putPour p
      if !p.seenDue then s
      else if s.ready p then s.commit p
      else if p.launch.isSome && (first || p.op.cls != .table || p.hdr.switch) then
        let p := { p with late := true }
        if p.hdr.strict then s.failPour p .late else s.putPour p
      else s
    else s

/-- Every waiting pour in stream order at the edge te. -/
def State.edgePours (s : State) (te : Word) : State :=
  (s.pour.flight.map (·.key)).foldl (fun s k => s.edgePour te k) s

/-! ### Acceptance (R58 to R64, R72, R74, R81) -/

/-- Both ports name one stream (R63). -/
def State.sharedStream (s : State) : Bool :=
  decide (s.rd (aOf.pourSidh 0) = s.rd (aOf.pourSidh 1)) && decide (s.rd (aOf.pourSidl 0) = s.rd (aOf.pourSidl 1))

/-- The stream a port feeds. -/
def State.streamOf (s : State) (p : Port) : Port := if s.sharedStream then .p0 else p

/-- EXP of a stream. -/
def State.exp (s : State) : Port → Option Word
  | .p0 => s.pour.exp0
  | .p1 => s.pour.exp1

/-- Set EXP of a stream. -/
def State.setExp (s : State) (p : Port) (v : Option Word) : State :=
  match p with
  | .p0 => { s with pour := { s.pour with exp0 := v } }
  | .p1 => { s with pour := { s.pour with exp1 := v } }

/-- The sequence check's verdict: the gap d, a duplicate, or stale (R63). -/
inductive SeqVerdict | pass (gap : Nat) | duplicate | stale
deriving DecidableEq, Repr

/-- The sequence check of a first fragment. -/
def State.seqCheck (s : State) (st : Port) (seq : Word) (id : BitVec 16) : SeqVerdict :=
  match s.exp st with
  | none => .pass 0
  | some e =>
    let d := (seq - e).toNat
    if d < 2 ^ 31 then .pass d
    else if s.pour.taken.any (fun t => t.stream == st && t.seq == seq && t.id == id &&
        decide (1 ≤ (e - seq).toNat) && decide ((e - seq).toNat ≤ 256)) then .duplicate
    else .stale

/-- The pour takes its SEQ; a non-zero gap counts once in POUR_ERRCNT GAP, whatever its size (DESIGN CHOICE, assumption 24), with
event 130. -/
def State.takeSeq (s : State) (st : Port) (seq : Word) (id : BitVec 16) (gap : Nat) : State :=
  let s := s.setExp st (some (seq + 1#32))
  let keep := s.pour.taken.filter (fun t => t.stream != st || decide ((seq - t.seq).toNat < 256))
  let s := { s with pour := { s.pour with taken := keep ++ [(⟨st, seq, id⟩ : SeqTaken)] } }
  s.when (decide (0 < gap)) (fun s => (s.bump aOf.pourErrcnt 0 16 1).raise 130)

/-- A first fragment ends with a status before it is in flight. -/
def State.refusePour (s : State) (key : PourKey) (f : PourFrag) (late : Bool) (st : PSt) : State :=
  s.record key f.port f.hdr.quiet late st s.frameNo

/-- A MASK_SET's records all pass R48 and R49. -/
def maskRecords (bs : List Byte) (n : Nat) : List (Mask × Bool) :=
  (List.range n).map (fun i => maskOf (fun j => beWordAt bs (i * 24 + j * 4)))

/-- The target POUR_ID of an ABORT and its effect (R76). -/
def State.abortAct (s : State) (p : Pour) : State :=
  let tk : PourKey := ⟨p.key.injected, BitVec.ofNat 16 p.hdr.x0⟩
  let s := s.dropPour p.key
  let answer (s : State) (st : PSt) : State := s.record p.key p.port p.hdr.quiet p.late st s.frameNo
  match s.findPour tk with
  | some q =>
    if q.phase = .copying ∨ (q.phase = .writing ∧ ¬ q.hdr.switch) then answer s .alreadyCommitted
    else answer (s.failPour q .aborted) .aborted
  | none => if s.pour.committed.contains tk.id && !tk.injected then answer s .alreadyCommitted else answer s .invalid

/-- The LAST fragment of a pour has arrived whole with a matching CRC: masks arm, an ABORT acts, other
pours become complete. -/
def State.completePour (s : State) (p : Pour) : State :=
  let p := { p with complete := true }
  match p.op with
  | .abort => s.abortAct p
  | .maskSet | .maskClear =>
    if p.op = .maskSet ∧ ¬ (maskRecords p.payload p.hdr.wd).all maskOk then s.failPour p .invalid
    else
      let now := s.stampOf false
      let s := s.drawn
      let late := match p.launch with | none => false | some l => !future l now
      let p := { p with late := late, phase := .armed }
      if late && p.hdr.strict then s.failPour p .late else s.putPour p
  | _ => s.putPour p

/-- A fragment's payload joins its pour: data land, and the LAST fragment is checked by CRC (R62). -/
def State.takePayload (s : State) (p : Pour) (f : PourFrag) : State :=
  let before := p.payload.length
  let p := { p with payload := p.payload ++ f.payload, nextIdx := p.nextIdx + 1 }
  let s := (s.putPour p).land p before
  if f.hdr.last then
    if crc32c p.payload = f.hdr.crc then s.completePour p else s.failPour p .fault
  else s

/-- The extent of a fragment fits its pour: it starts at the bytes so far and ends at the total if LAST,
not beyond it otherwise (R61). -/
def extentOk (op : PourOp) (f : PourFrag) (sofar : Nat) : Bool :=
  f.hdr.offset.toNat == sofar && decide (f.hdr.fragLen.toNat ≤ 8192) &&
  f.hdr.fragLen.toNat == f.payload.length &&
  (if f.hdr.last then sofar + f.payload.length == payloadLen op f.hdr
   else decide (sofar + f.payload.length ≤ payloadLen op f.hdr))

/-- The pour engine refuses fragments of a port after a flush (R83). -/
def State.refusing (s : State) (p : Port) : Bool :=
  s.pour.flushing || (match p with | .p0 => s.pour.refusing0 | .p1 => s.pour.refusing1)

/-- The drop counter of a port's classifier. -/
def State.countDrop (s : State) (p : Port) : State :=
  match p with
  | .p0 => { s with port0 := { s.port0 with drops := s.port0.drops + 1 } }
  | .p1 => { s with port1 := { s.port1 with drops := s.port1.drops + 1 } }

/-- The silence timer restarts at every accepted host pour (R246). -/
def State.pourSeen (s : State) : State := { s with fw := { s.fw with lastPourNs := s.extNs } }

/-- A first fragment that passed the sequence check enters flight, or ends INVALID or NO_RESOURCE, or is
late under STRICT at acceptance (R64, R59, R61, R72, R74). -/
def State.enterPour (s : State) (op : PourOp) (inj : Bool) (f : PourFrag) : State :=
  let key : PourKey := ⟨inj, f.hdr.pourId⟩
  let h := f.hdr
  if (s.findPour key).isSome || !codesOk op h || !geometryOk s.part op h || !extentOk op f 0 then
    s.refusePour key f false .invalid
  else if !s.resourcesOk inj op h then s.refusePour key f false .noResource
  else
    let now := s.stampOf false
    let s := s.drawn
    let launch := if f.tv && op.cls != .control then some f.stamp else none
    let late := op.cls != .mask && (match launch with | none => false | some l => !future l now)
    if late && h.strict then s.refusePour key f true .late
    else
      let (s, slots) := if op.cls = .tile then s.takeSlots (slotTiles op h).length else (s, [])
      let p : Pour :=
        { key := key, op := op, port := f.port, hdr := h, launch := launch, payload := [], nextIdx := 0
          complete := false, seenDue := late, late := late, phase := .waiting, slots := slotsNeeded op h
          tiles := if op.cls = .tile then tilesOf h else [], slotOf := (slotTiles op h).zip slots
          merges := (slotTiles op h).filter (fun t => !coversTile h t), undo := [], undoFok := none, frame := none }
      let s := { s with pour := { s.pour with flight := s.pour.flight ++ [p] } }
      (s.when (!inj) (·.pourSeen)).takePayload p f

/-- Acceptance of a host pour's first fragment, in the order of R81. -/
def State.acceptFirst (s : State) (f : PourFrag) : State :=
  let key : PourKey := ⟨false, f.hdr.pourId⟩
  match (if f.hdr.good then pourOpOf f.hdr.opcode else none) with
  | none => s.refusePour key f false .invalid
  | some op =>
    if op = .segWrite ∧ ¬ s.part.hasSeg then s.refusePour key f false .absent
    else
      let st := s.streamOf f.port
      match s.seqCheck st f.hdr.seq f.hdr.pourId with
      | .duplicate => s.bump aOf.pourErrcnt 16 16 1
      | .stale => s.refusePour key f false .stale
      | .pass gap => (s.takeSeq st f.hdr.seq f.hdr.pourId gap).enterPour op false f

/-- The lamp manager injects a pour (R244): it takes no SEQ and draws on the reserve. -/
def State.inject (s : State) (op : PourOp) (h : PourHdr) (launch : Option Word) (bs : List Byte) : State :=
  s.enterPour op true { port := .p0, tv := launch.isSome, stamp := launch.getD 0#32, hdr := h, payload := bs }

/-- Words 0 to 4 of two headers agree apart from LAST (R61). -/
def sameHead (a b : PourHdr) : Bool :=
  a.version == b.version && a.opcode == b.opcode && a.pourId == b.pourId && a.target == b.target && a.format == b.format &&
  a.flags.toNat / 2 == b.flags.toNat / 2 && a.w2 == b.w2 && a.w3 == b.w3 && a.seq == b.seq

/-- A later fragment (R61): matched by POUR_ID and port to a pour whose LAST has not come, else an orphan. A header
that fails R58 comes before every other check (R81). -/
def State.laterFragment (s : State) (f : PourFrag) : State :=
  match s.pour.flight.find? (fun p => p.holds && !p.key.injected && p.key.id == f.hdr.pourId && p.port == f.port
      && !p.complete) with
  | none => s.bump aOf.pourErrcnt 16 16 1
  | some p =>
    if !f.hdr.good then s.failPour p .invalid
    else if f.hdr.fragIdx.toNat ≠ p.nextIdx then s.failPour p .fault
    else if !sameHead f.hdr p.hdr || !extentOk p.op f p.payload.length then s.failPour p .invalid
    else s.takePayload p f

/-! ### Flush and streams (R83) -/

/-- A write of 1 to POUR_CTRL FLUSH. -/
def State.flushOp (s : State) : State :=
  if s.pour.flushing then s
  else
    let s := s.setBit aOf.pourCtrl 8 true
    let s := { s with pour := { s.pour with flushing := true, refusing0 := true, refusing1 := true, ingress := [] } }
    let s := s.pour.flight.foldl (fun s p =>
      if p.phase = .copying ∨ (p.phase = .writing ∧ ¬ p.hdr.switch) ∨ p.phase = .flushed then s
      else (s.freePour p).putPour { p with phase := .flushed, slotOf := [], merges := [], undo := [], undoFok := none }) s
    s.settle

/-- POUR_CTRL EN(p) goes from 0 to 1: after a flush the port `p` alone accepts pours again (R83; DESIGN CHOICE, assumption 113). -/
def State.streamOn (s : State) (p : Port) : State :=
  let s := s.setBit aOf.pourCtrl p.idx true
  let st := s.streamOf p
  let s := s.setExp st none
  let s := { s with pour := { s.pour with taken := s.pour.taken.filter (fun t => t.stream != st) } }
  match p with
  | .p0 => { s with pour := { s.pour with refusing0 := false } }
  | .p1 => { s with pour := { s.pour with refusing1 := false } }

end Sys2Proof.Machine
end

