-- ==== Sys2Proof/Machine/Pours.lean ====
section
/-! DEFINITION. The commands of the pour stream (R55 to R83): first fragments of each opcode, later
fragments, merges, copies, table writes, fences, results, flush and streams, and the mask fast path. -/

namespace Sys2Proof.Machine

open Sys2Proof

/-! ### Pours firmware injects (R244, R300) -/

/-- The header of a pour the lamp manager injects, whole in one fragment. -/
def injectHdr (op : PourOp) (id : Nat) (target : Nat) (w2 w3 : Word) (switch : Bool) (bs : List Byte) : PourHdr :=
  { version := 0x01#8, opcode := op.code, pourId := BitVec.ofNat 16 id, target := BitVec.ofNat 8 target
    format := if op = .patternWrite then 0x10#8 else 0#8
    flags := BitVec.ofNat 16 (1 + b2n switch * 4), w2 := w2, w3 := w3, seq := 0#32, offset := 0#32
    fragLen := BitVec.ofNat 16 bs.length, fragIdx := 0#16, crc := crc32c bs }

/-- Its header. -/
def Load.hdr (l : Load) : PourHdr := injectHdr l.op l.id l.target l.w2 l.w3 l.switch l.bytes

/-- The number the next injected pour takes. -/
def State.nextInject (s : State) : BitVec 16 := BitVec.ofNat 16 s.fw.injectId

/-- The next injected pour has taken its number. -/
def State.tookId (s : State) : State := { s with fw := { s.fw with injectId := (s.fw.injectId + 1) % 65536 } }

/-- Inject a pour now. -/
def State.injectLoad (s : State) (l : Load) : State := s.inject l.op l.hdr none l.bytes

/-- A pour joins those that wait to be injected. -/
def State.enqueue (s : State) (l : Load) : State :=
  { s.tookId with fw := { s.tookId.fw with loads := s.fw.loads ++ [{ l with id := s.fw.injectId }] } }

/-- The pours that wait are injected in order, as far as the reserve of R244 holds them; one larger than the reserve
itself is injected and refused. -/
def feedLoads : Nat → State → State
  | 0, s => s
  | n + 1, s =>
    match s.fw.loads with
    | [] => s
    | l :: r =>
      if s.resourcesOk true l.op l.hdr || decide (64 < slotsNeeded l.op l.hdr) then
        feedLoads n (({ s with fw := { s.fw with loads := r } }).injectLoad l)
      else s

/-- Waiting pours go on while the lamp leaves OFF or is lit, but not during a flush. -/
def State.feed (s : State) : State :=
  if s.fwRuns && s.domOn pdPipe && !s.pour.flushing && (s.fw.leaving.isSome || s.fw.lamp != .off) then
    feedLoads s.fw.loads.length s
  else s

/-- The lamp manager changes a table or the pattern area by a pour (R244): after those that wait, once the reserve holds it. -/
def State.injectPour (s : State) (op : PourOp) (target : Nat) (w2 w3 : Word) (switch : Bool) (bs : List Byte) : State :=
  (s.enqueue { id := 0, op := op, target := target, w2 := w2, w3 := w3, switch := switch, bytes := bs }).feed

/-- A pour that waits for no other: a mask pour, or a step of a fade. -/
def State.injectAtOnce (s : State) (op : PourOp) (target : Nat) (w2 w3 : Word) (switch : Bool) (bs : List Byte) : State :=
  s.tookId.injectLoad { id := s.fw.injectId, op := op, target := target, w2 := w2, w3 := w3, switch := switch, bytes := bs }

/-- A table pour injected at an edge at which the set is free is written there, and with SWITCH commits (R247). -/
def State.injectStep (s : State) (op : PourOp) (target : Nat) (w2 w3 : Word) (switch : Bool) (bs : List Byte) : State :=
  let k : PourKey := ⟨true, s.nextInject⟩
  let s := s.injectAtOnce op target w2 w3 switch bs
  let next (s : State) (ph : PourPhase) (f : State → Pour → State) : State :=
    match s.findPour k with
    | some p => if p.phase = ph then f s p else s
    | none => s
  next (next (next s .waiting (·.startWrite ·)) .writing (·.endWrite ·)) .written (·.commit ·)

/-! ### Fragments -/

/-- The pour engine can work: the device runs and PD_PIPE is ON. -/
def State.pourOn (s : State) : Bool := s.alive && s.domOn pdPipe

/-- A pour frame is discarded and counted, with event 128 (R17, R83). -/
def State.discardPour (s : State) (p : Port) : State := (s.countDrop p).raise 128

/-- The pour engine takes fragments in merge order (R24): `f` while none waits, else the one that waits first. -/
def State.takeIngress (s : State) (f : PourFrag) : Option State :=
  match s.pour.ingress with
  | [] => some s
  | e :: r => if e.2 = f then some { s with pour := { s.pour with ingress := r } } else none

/-- A fragment reaches the pour engine: a first fragment is accepted by R58 to R74, a later one is matched by R61; it is
discarded while PD_PIPE is off or after a flush. -/
def State.fragment (s : State) (f : PourFrag) : State :=
  if s.alive && s.part.hasPort f.port then
    match s.takeIngress f with
    | none => s
    | some s =>
      if !s.domOn pdPipe || s.refusing f.port then s.discardPour f.port
      else if f.hdr.fragIdx = 0#16 then s.acceptFirst f
      else s.laterFragment f
  else s

/-- WRITE_RECT (R59, R65, R66). -/
def execWriteRect (f : PourFrag) (s : State) : Res := done (s.begin.fragment (f.ofOp .writeRect))

/-- FILL_RECT (R59, R65, R66). -/
def execFillRect (f : PourFrag) (s : State) : Res := done (s.begin.fragment (f.ofOp .fillRect))

/-- MASK_SET (R78). -/
def execMaskSet (f : PourFrag) (s : State) : Res := done (s.begin.fragment (f.ofOp .maskSet))

/-- MASK_CLEAR (R78). -/
def execMaskClear (f : PourFrag) (s : State) : Res := done (s.begin.fragment (f.ofOp .maskClear))

/-- PATTERN_WRITE (R67). -/
def execPatternWrite (f : PourFrag) (s : State) : Res := done (s.begin.fragment (f.ofOp .patternWrite))

/-- GLYPH_WRITE (R67). -/
def execGlyphWrite (f : PourFrag) (s : State) : Res := done (s.begin.fragment (f.ofOp .glyphWrite))

/-- LAYER_SET (R68). -/
def execLayerSet (f : PourFrag) (s : State) : Res := done (s.begin.fragment (f.ofOp .layerSet))

/-- MESH_WRITE (R59, R68). -/
def execMeshWrite (f : PourFrag) (s : State) : Res := done (s.begin.fragment (f.ofOp .meshWrite))

/-- TABLE_WRITE (R60, R68). -/
def execTableWrite (f : PourFrag) (s : State) : Res := done (s.begin.fragment (f.ofOp .tableWrite))

/-- SEG_WRITE (R70). -/
def execSegWrite (f : PourFrag) (s : State) : Res := done (s.begin.fragment (f.ofOp .segWrite))

/-- FENCE (R75). -/
def execFence (f : PourFrag) (s : State) : Res := done (s.begin.fragment (f.ofOp .fence))

/-- ABORT (R76, R77). -/
def execAbortPour (f : PourFrag) (s : State) : Res := done (s.begin.fragment (f.ofOp .abort))

/-- POUR_FRAGMENT (R61): the fragment's opcode is the one of its header. A fragment of index 0 is accepted as the first of
its pour. -/
def execPourFragment (f : PourFrag) (s : State) : Res := done (s.begin.fragment f)

/-- FRAG_TIMEOUT (R61). -/
def execFragTimeout (key : PourKey) (s : State) : Res :=
  let s := s.begin
  match s.findPour key with
  | some p => done (s.when (s.pourOn && !p.complete) (·.failPour p .timeout))
  | none => done s

/-- TILE_MERGE (R66): once every earlier pour in the tile's runner has ended. -/
def execTileMerge (key : PourKey) (tile : Nat) (s : State) (faults : List CruFault := []) : Res :=
  let s := s.begin
  match s.findPour key with
  | some p =>
    let free := !(s.ahead key).any (fun q => q.tiles.contains tile)
    done (s.when (s.pourOn && p.merges.contains tile && free) (fun s =>
      ((s.meetFaults (s.inTile tile) faults).mergeTile p tile).putPour { p with merges := p.merges.filter (· != tile) }))
  | none => done s

/-- The store pour being copied (R67). -/
def State.copying (s : State) : Option Pour := s.pour.flight.find? (fun p => p.phase == .copying)

/-- STORE_COPY_END (R67). -/
def execStoreCopyEnd (s : State) : Res :=
  let s := s.begin
  match s.copying with
  | some p =>
    let base := if p.op = .glyphWrite then s.part.glyphBase else 0
    done (s.when s.pourOn (fun s =>
      ((s.cruPut (base + p.hdr.w2.toNat) (storeBytes p.op p.hdr.w2.toNat p.payload)).okPour p).feed))
  | none => done s

/-- The head of the store runner. -/
def State.storeHead (s : State) : Option Pour :=
  s.pour.flight.find? (fun p => p.holds && (p.op.cls == .store || p.op.cls == .table))

/-- TABLE_POUR_WRITE (R68). -/
def execTablePourWrite (s : State) : Res :=
  let s := s.begin
  match s.storeHead with
  | some p => done (s.when (s.pourOn && s.canWrite p && (p.launch.isNone || p.seenDue)) (fun s => (s.startWrite p).feed))
  | none => done s

/-- TABLE_POUR_WRITE_END (R68). -/
def execTablePourWriteEnd (s : State) : Res :=
  let s := s.begin
  match s.storeHead with
  | some p => done (s.when (s.pourOn && p.phase == .writing) (fun s => (s.endWrite p).feed))
  | none => done s

/-- The set sync copies the written ranges from the active set into the inactive one (R69). -/
def State.syncSets (s : State) (faults : List CruFault) : State :=
  let a := s.part.setBase s.beam.setB
  let b := s.part.setBase (!s.beam.setB)
  let s := s.meetFaults (fun o => s.pour.syncing.any (fun r => overlap (a + r.1) r.2 (o / 8 * 8) 8)) faults
  let s := s.pour.syncing.foldl (fun s r =>
    (s.cruPut (b + r.1) (s.cruBytes (a + r.1) r.2)).carryPoison (a + r.1) (b + r.1) r.2 (fun _ => true)) s
  { s with pour := { s.pour with syncing := [], syncBusy := false } }

/-- SET_SYNC_END (R69). -/
def execSetSyncEnd (s : State) (faults : List CruFault := []) : Res :=
  let s := s.begin
  done (s.when (s.pourOn && s.pour.syncBusy) (·.syncSets faults))

/-- FENCE_COMPLETE (R75). -/
def execFenceComplete (s : State) : Res :=
  let s := s.begin
  match s.pour.flight.find? (fun p => p.holds && p.op == .fence) with
  | some p => done (s.when (s.pourOn && s.fenceReady p) (·.endFence p))
  | none => done s

/-- Removal of the oldest result record. -/
def State.popResult (s : State) : State := { s with pour := { s.pour with results := s.pour.results.drop 1 } }

/-- POUR_RESULT_POP (R80). -/
def execPourResultPop (s : State) : Res := done (s.begin.access aOf.pourResstat (·.popResult))

/-- FLUSH (R83). -/
def execFlush (s : State) : Res := done (s.begin.access aOf.pourCtrl (·.flushOp))

/-- STREAM_ENABLE (R83). -/
def execStreamEnable (p : Port) (s : State) : Res :=
  done (s.begin.access aOf.pourCtrl (fun s =>
    s.when (s.part.hasPort p && !s.bit aOf.pourCtrl p.idx) (·.streamOn p)))

/-- POUR_RES0: the oldest record. -/
def State.res0View (s : State) : Word :=
  match s.pour.results with
  | [] => 0#32
  | r :: _ => BitVec.ofNat 32 (r.id.toNat * 65536 + r.status * 256 + 128 + b2n r.inj * 4 + r.port.idx * 2 + b2n r.late)

/-- POUR_RES1: its frame number. -/
def State.res1View (s : State) : Word :=
  match s.pour.results with
  | [] => 0#32
  | r :: _ => r.frame

/-- POUR_RESSTAT: LOST and COUNT. -/
def State.resstatView (s : State) : Word := setFld (s.rd aOf.pourResstat) 0 11 s.pour.results.length

/-! ### Mask fast path (R52, R78) -/

/-- A mask pour's records enter the live mask table. -/
def State.applyMasks (s : State) (p : Pour) : State :=
  let first := p.hdr.x0
  if p.op = .maskSet then
    ((maskRecords p.payload p.hdr.wd).zipIdx).foldl (fun s r => s.setMask (first + r.2) r.1.1) s
  else
    (List.range p.hdr.wd).foldl (fun s i => s.setMask (first + i) { s.mask (first + i) with valid := false, ended := false }) s

/-- One armed mask pour at a line boundary, applied once its launch time is due. -/
def State.landMask (s : State) (k : PourKey) : State :=
  match s.findPour k with
  | none => s
  | some p =>
    let isDue := match p.launch with | none => true | some l => dueAt l s.time.ns
    s.when (p.phase == .armed && isDue) (fun s => ((s.applyMasks p).commitId p).okPour p)

/-- MASK_LINE_BOUNDARY (R52, R78): armed mask pours are applied in stream order. -/
def execMaskLineBoundary (s : State) : Res :=
  let s := s.begin
  done (s.when s.pourOn (fun s => (s.pour.flight.map (·.key)).foldl (·.landMask ·) s))

/-- MASK_EXPIRY (R53): a mask whose remaining count an edge has found at 0 leaves the table; it has gated nothing since that
edge. -/
def execMaskExpiry (i : Fin 256) (s : State) : Res :=
  let s := s.begin
  let m := s.mask i.val
  done (s.when (s.pourOn && m.valid && m.ended) (·.setMask i.val { m with valid := false, ended := false }))

end Sys2Proof.Machine
end

