-- ==== Sys2Proof/Machine/Temper.lean ====
section
/-! DEFINITION. The Temper engine (R108 to R124): board references, node equations, droop, derating, supply
limiting, wear, publication, die temperature and Burst budget, the LC temperature band it and the NTCs
feed (R100), and the commands of that family. -/

namespace Sys2Proof.Machine

open Sys2Proof

/-! ### Tiles and their records (R6, R190, Table 05-4) -/

/-- The regions of set `b` that are enabled, with their numbers. -/
def State.liveRegions (s : State) (b : Bool) : List (Nat × Region) :=
  ((List.range 4).map (fun r => (r, s.region b r))).filter (fun g => g.2.en)

/-- The tile columns of tile row `row` that lie in enabled regions, with the region of each, ascending. -/
def State.rowTiles (s : State) (b : Bool) (row : Nat) : List (Nat × Nat) :=
  let gs := (s.liveRegions b).filter (fun g => decide (g.2.y0 ≤ row * 8) && decide (row * 8 < g.2.y0 + g.2.h))
  (List.range (s.part.gridW / 8)).filterMap (fun c =>
    (gs.find? (fun g => decide (g.2.x0 ≤ c * 8) && decide (c * 8 < g.2.x0 + g.2.w))).map (fun g => (row * 512 + c, g.1)))

/-- Every tile in an enabled region, with its region. -/
def State.allTiles (s : State) (b : Bool) : List (Nat × Nat) :=
  if (s.liveRegions b).isEmpty then [] else (List.range (s.part.gridH / 8)).flatMap (s.rowTiles b)

/-- A tile lies in an enabled region of set `b`. -/
def State.tileLive (s : State) (b : Bool) (t : Nat) : Bool := (s.regionAt b (t % 512 * 8) (t / 512 * 8)).isSome

/-- Window offset of word `w` of a tile's thermal record. -/
def Part.thermal (p : Part) (t w : Nat) : Nat := p.tileBase + p.packed t * 16 + w * 4

/-- A node of a tile in 2^-16 °C: word 0 ts, word 1 tf. -/
def State.node16 (s : State) (t w : Nat) : Int := sx 32 (s.cruWord (s.part.thermal t w)).toNat

/-- Store a word of a tile's thermal record. -/
def State.putThermal (s : State) (t w v : Nat) : State := s.cruPut (s.part.thermal t w) (leBytes (BitVec.ofNat 32 v))

/-- Store both nodes of a tile. -/
def State.putNodes (s : State) (t : Nat) (ts tf : Int) : State :=
  (s.putThermal t 0 (unsx 32 (satS 32 ts))).putThermal t 1 (unsx 32 (satS 32 tf))

/-! ### References (R109, R110) -/

/-- The NTC conversion of a 12-bit code, S9.7. -/
def State.ntcTemp (s : State) (c : Nat) : Int :=
  let n (i : Nat) : Int := sx 16 (s.f (aOf.tmpNtc i) 0 16)
  let i := c / 64
  roundEven (n i * 64 + (n (i + 1) - n i) * (c % 64 : Nat)) 64

/-- A valid NTC reading of input `j` (1 to 4), S9.7. -/
def State.ntcReading (s : State) (j : Nat) : Option Int :=
  let at' := tget (fun _ => 0) s.cal.ntcSeen j
  if s.bit (aOf.calAin j) 31 || at' == 0 || decide (100000000 < s.extNs + 1 - at') then none
  else some (s.ntcTemp (s.f (aOf.calAin j) 0 12))

/-- A valid die temperature of sensor `i`, S9.7. -/
def State.dieReading (s : State) (i : Nat) : Option Int :=
  if s.bit (aOf.calTs i) 31 then none else some (sx 16 (s.f (aOf.calTs i) 0 16))

/-- The highest of some readings. -/
def maxReading (l : List (Option Int)) : Option Int :=
  l.foldl (fun m r => match m, r with
    | none, r => r
    | m, none => m
    | some a, some b => some (max a b)) none

/-- The highest valid die temperature. -/
def State.dieMax (s : State) : Option Int := maxReading ((List.range 16).map s.dieReading)

/-- The valid reading of the driver that carries pixel (x, y): from a FOM at most 100 ms old of a LIT slice. -/
def State.driverReading (s : State) (x y : Nat) : Option Int × Nat :=
  let named := (List.range 64).filter (fun i =>
    let d := s.sd i
    d.hasRow y && decide (d.x0 ≤ x) && decide (x < d.x0 + d.w))
  match (named.find? (fun i => s.sliceState i == slLit)).or named.head? with
  | none => (none, 64)
  | some i =>
    match (s.slice i).temp with
    | some (v, t) => (if s.sliceState i = slLit ∧ s.extNs ≤ t + 100000000 then some v else none, i)
    | none => (none, i)

/-- The reference a tile's region names, and a key for the substitution it may need. -/
def State.reference (s : State) (t r : Nat) : Option Int × Nat :=
  let k := s.lf (aOf.tmpDroop r) 0 3
  if k < 4 then (s.ntcReading (k + 1), k)
  else if k = 4 then
    let d := s.driverReading (t % 512 * 8) (t / 512 * 8)
    (d.1, 8 + d.2)
  else (s.dieMax, 5)

/-- TDROOP of a region in 2^-16 °C. -/
def State.tdroop (s : State) (r : Nat) : Int := sx 8 (s.lf (aOf.tmpDroop r) 24 8) * 65536

/-- The Tb of a tile in 2^-16 °C, with the key of a reference that had to be substituted (R109). -/
def State.tbOf (s : State) (t r : Nat) : Int × Option Nat :=
  let d := s.reference t r
  match d.1 with
  | some v => (v * 512, none)
  | none =>
    let sub := match maxReading ((List.range 4).map (fun j => s.ntcReading (j + 1))) with
      | some v => some v
      | none => s.dieMax
    match sub with
    | some v => (v * 512, some d.2)
    | none => ((tget (fun _ => none) s.temper.lastTb t).getD (s.tdroop r), some d.2)

/-- A substitution in a tile's update: event 256 and REFFB when it begins, REF_FB while it lasts. One substitution is that of
one source TREF names: an NTC input, a slice's driver, or the die sensors (DESIGN CHOICE, assumption 96). -/
def State.noteRef (s : State) (k : Option Nat) : State :=
  match k with
  | none => s
  | some k =>
    if s.temper.refNow.contains k then s
    else
      let begun := !s.temper.refSubs.contains k
      let s := { s with temper := { s.temper with refNow := k :: s.temper.refNow } }
      let s := s.setBit aOf.tmpStat 6 true
      s.when begun (fun s => (s.bump aOf.tmpErrcnt 16 16 1).raise 256)

/-! ### One tile (R111 to R116) -/

/-- The coefficient of a time constant: min(round_even(P × 2^24 ÷ τ), 2^24). -/
def coef (p tau : Nat) : Int := min (roundEven (p * 2 ^ 24 : Nat) tau) (2 ^ 24)

/-- A node step: n + round_even(a × (b + k × p ÷ 32 − n) ÷ 2^24) in 2^-16 °C, k in 0.5 °C units. -/
def nodeStep (n a b : Int) (k p : Nat) : Int := n + roundEven (a * (32 * (b - n) + (k * p : Nat))) (32 * 2 ^ 24)

/-- The Arrhenius weight code of a junction temperature (R115). -/
def State.arrhenius (s : State) (tf : Int) : Int :=
  let w (i : Nat) : Int := s.f (aOf.tmpArrw i) 0 16
  let v := tf + 40 * 65536
  let i : Nat := (min (max (v / 2 ^ 18) 0) 62).toNat
  let fr : Int := min (max (v - i * 2 ^ 18) 0) (2 ^ 18)
  roundEven (w i * 2 ^ 18 + (w (i + 1) - w i) * fr) (2 ^ 18)

/-- Entry `i` of the ageing-gain table of a region. -/
def State.ageGain (s : State) (r i : Nat) : Nat :=
  s.f (match r with | 0 => aOf.tmpAgeg0 i | 1 => aOf.tmpAgeg1 i | 2 => aOf.tmpAgeg2 i | _ => aOf.tmpAgeg3 i) 0 12

/-- Gw of a stress counter (R116). -/
def State.wearGain (s : State) (r stress : Nat) : Nat :=
  let sh := s.f aOf.tmpWear 0 5
  let e := stress / 2 ^ sh
  if 32 ≤ e then s.ageGain r 32
  else
    let g0 : Int := s.ageGain r e
    (roundEven (g0 * 2 ^ sh + ((s.ageGain r (e + 1) : Int) - g0) * (stress % 2 ^ sh : Nat)) (2 ^ sh)).toNat

/-- The wear increment of a frame added to a tile's 56-bit counter; event 264 once when it saturates, as long as PD_CRU keeps
the counter (DESIGN CHOICE, assumption 97). -/
def State.addWear (s : State) (t p period : Nat) (tf : Int) : State :=
  if s.bit aOf.tmpCtrl 1 then
    let inc := (p * period * (s.arrhenius tf).toNat) / (256 * 10 ^ 9)
    let cur := (s.cruWord (s.part.thermal t 2)).toNat * 2 ^ 24 + (s.cruWord (s.part.thermal t 3)).toNat % 2 ^ 24
    let v := satTo (2 ^ 56 - 1) (cur + inc)
    let s := (s.putThermal t 2 (v / 2 ^ 24)).putThermal t 3 (v % 2 ^ 24)
    s.when (v == 2 ^ 56 - 1 && !s.cru.wearSat.contains t) (fun s =>
      ({ s with cru := { s.cru with wearSat := t :: s.cru.wearSat } }).raise 264)
  else s

/-- droop in units of 2^-32 (R113). -/
def State.droop (s : State) (r : Nat) (ts : Int) : Nat :=
  let kd := s.lf (aOf.tmpDroop r) 12 12
  let head := s.lf (aOf.tmpDroop r) 4 8
  min (2 ^ 32 + kd * (max (ts - s.tdroop r) 0).toNat) (2 ^ 32 + head * 2 ^ 24)

/-- der in units of 2^-28 (R113). -/
def State.der (s : State) (r : Nat) (tf : Int) : Nat :=
  let kr : Nat := s.lf (aOf.tmpDerate r) 12 12
  let tder := sx 8 (s.lf (aOf.tmpDerate r) 24 8) * 65536
  (max ((2 ^ 28 : Int) - kr * max (tf - tder) 0) ((s.lf (aOf.tmpDerate r) 0 12 * 2 ^ 16 : Nat) : Int)).toNat

/-- Ftr (R113). -/
def State.transient (s : State) (r dr : Nat) (ts tf : Int) : Nat :=
  let kd : Nat := s.lf (aOf.tmpDroop r) 12 12
  let h : Nat := 2 ^ 32 + s.lf (aOf.tmpDroop r) 4 8 * 2 ^ 24
  let a : Int := 2 ^ 32 + kd * (tf - ts)
  if a * dr ≤ h * 2 ^ 32 then satU 16 (roundEven (16384 * a) (2 ^ 32)) else satU 16 (roundEven (16384 * h : Nat) dr)

/-- The thermal record of a tile is written back (R112, R116). A word of it that reads uncorrectable keeps its data bits as read and
stays poison, and so does a stress counter to which the increment of such a node would go (R194). -/
def State.storeThermal (s : State) (t : Nat) (ts tf : Int) (p period : Nat) : State :=
  let a := s.part.thermal t 0
  let nodesBad := s.cru.poison.contains (a / 8)
  let wearBad := s.cru.poison.contains (a / 8 + 1)
  let s := if nodesBad then s.cruUncorrectable a else s.putNodes t ts tf
  let s := s.when wearBad (·.cruUncorrectable (a + 8))
  if !nodesBad && !wearBad then s.addWear t p period tf
  else s.when (nodesBad && s.bit aOf.tmpCtrl 1) (·.poisonWord (a / 8 + 1))

/-- Window words of the thermal records of a tile row. -/
def State.inThermalRow (s : State) (row off : Nat) : Bool :=
  decide (s.part.tileBase ≤ off) && decide (off < s.part.tileBase + s.part.slots * 16) &&
    decide ((off - s.part.tileBase) / 16 / s.part.tileCols = row)

/-- One tile through the steps of R112, with power `p` over a frame of `period` ns. -/
def State.updateTile (s : State) (t r p period : Nat) : State :=
  let tb := s.tbOf t r
  let s := s.noteRef tb.2
  let keep := s.bit aOf.tmpCtrl 3
  let fresh := !keep && !s.temper.modelled.contains t
  let ts0 := if fresh then tb.1 else s.node16 t 0
  let tf0 := if fresh then tb.1 else s.node16 t 1
  let rc := s.latched (aOf.tmpRc r)
  let tauf := min (max (fld rc 0 8) 20) 200 * 250000
  let taus := min (max (fld rc 8 8) 10) 200 * 100000000
  let ts := nodeStep ts0 (coef period taus) tb.1 (fld rc 24 8) p
  let tf := nodeStep tf0 (coef period tauf) ts (fld rc 16 8) p
  let s := s.storeThermal t ts tf p period
  let dr := s.droop r ts
  let de := s.der r tf
  let u : TileUpdate :=
    { fac := dr * de, ftr := s.transient r dr ts tf, gw := s.wearGain r (s.cruWord (s.part.thermal t 2)).toNat, tf := tf }
  { s with temper := { s.temper with
    computed := tset (fun _ => none) s.temper.computed t (some u), facs := tset (fun _ => 2 ^ 60) s.temper.facs t u.fac
    lastTb := tset (fun _ => none) s.temper.lastTb t (some tb.1)
    modelled := if s.temper.modelled.contains t then s.temper.modelled else t :: s.temper.modelled
    derated := s.temper.derated || decide (de < 2 ^ 28) } }

/-! ### Supply limiting (R114) -/

/-- A U0.16 code in which 0xFFFF stands for 1, in units of 1/65,536. -/
def one16 (c : Nat) : Nat := if c = 0xFFFF then 65536 else c

/-- The allowed fraction at a battery voltage in 0.1 mV, in units of 1/(5,000 × 65,536). -/
def State.allowed (s : State) (vb : Nat) : Nat :=
  let e (i : Nat) := one16 (s.f (aOf.tmpVprof i) 0 16)
  if vb ≤ 40000 then e 0 * 5000
  else if 115000 ≤ vb then e 15 * 5000
  else
    let i := (vb - 40000) / 5000
    let f := (vb - 40000) % 5000
    e i * (5000 - f) + e (i + 1) * f

/-- Sglob of the frame whose tile powers are `pw` and whose unlimited factors are `facs` is computed; the window of AIN0
readings starts again. -/
def State.computeSglob (s : State) (b : Bool) (pw facs : Tab Nat) : State :=
  let tiles := s.allTiles b
  let prev := one16 s.temper.nextSglob
  let vb := s.temper.vbatLow.map (· * s.lf aOf.tmpVlim 0 16)
  let dsum := (tiles.map (fun t =>
    tget (fun _ => 0) pw t.1 * tget (fun _ => 2 ^ 60) facs t.1)).sum
  -- dsum is in units of 1/(2^20 × 2^60 × N); a in units of 1/(5,000 × 2^16)
  let code : Nat :=
    if !s.bit aOf.tmpCtrl 2 then 0xFFFF
    else match vb with
      | none => s.temper.nextSglob
      | some v =>
        let a := s.allowed v
        let n := tiles.length
        let target := if a * 2 ^ 64 * n < dsum * 5000 then (roundEven (a * 2 ^ 80 * n : Nat) (dsum * 5000)).toNat else 65536
        min (min target (prev + s.lf aOf.tmpVlim 16 8 * 16)) 0xFFFF
  let mv := match vb with | none => 0 | some v => satU 16 (roundEven v 10)
  let s := s.setF aOf.tmpVbat 0 16 mv
  { s with temper := { s.temper with nextSglob := code, sglobDone := true, vbatLow := none } }

/-! ### Publication (R108, R112) -/

/-- F of an unlimited factor under a Sglob code. -/
def limitF (fac code : Nat) : Nat := satU 16 (roundEven (16384 * fac * one16 code : Nat) (2 ^ 76))

/-- The factors in force for a tile (R108). -/
def State.factors (s : State) (t : Nat) : TileFactors :=
  match tget (fun _ => none) s.temper.published t with
  | some f => f
  | none => { f := limitF (2 ^ 60) s.temper.sglob, ftr := 16384, gw := 1024, tf := 0 }

/-- The model runs: EN is set and was set at the last edge. -/
def State.modelRuns (s : State) : Bool := s.temper.enSeen && s.bit aOf.tmpCtrl 0

/-- The tile rows that hold tiles of enabled regions. -/
def State.modelRows (s : State) (b : Bool) : List Nat :=
  (List.range (s.part.gridH / 8)).filter (fun r =>
    (s.liveRegions b).any (fun g => decide (g.2.y0 ≤ r * 8) && decide (r * 8 < g.2.y0 + g.2.h)))

/-- A tile lies in a tile row whose eight rows have all left S4, `next` being the next row to scan. -/
def wholeRow (next t : Nat) : Bool := decide (t / 512 * 8 + 8 ≤ next)

/-- The tile powers in force for the frame that ends (R93): its own, and for a tile row abandoned by R87 those in force for the
frame before, which for a row abandoned twice running are those of the last frame that scanned it whole (DESIGN CHOICE,
assumption 98). -/
def State.framePower (s : State) (next : Nat) : Tab Nat :=
  (s.pipe.prevPower.filter (fun e => !wholeRow next e.1)).foldl (fun m e => tset (fun _ => 0) m e.1 e.2)
    (s.pipe.power.filter (fun e => wholeRow next e.1))

/-- The Temper engine at a frame-start edge, with `old` the set of the frame that ends, whether one ended, and
`next` its next row to scan: late tiles are counted and the computed updates become the published values (R108,
R112). The new set is active already. -/
def State.temperEdge (s : State) (ended old : Bool) (next : Nat) : State :=
  let en := s.bit aOf.tmpCtrl 0
  let rows := if ended && s.modelRuns then (s.modelRows old).filter (fun r => !s.temper.rowsDone.contains r) else []
  let power := s.framePower next
  let late := if rows.isEmpty then s.temper.late
    else s.temper.late ++ [{ tag := s.pipe.tag, power := power, facs := s.temper.facs, rows := rows }]
  let lateN := (rows.flatMap (s.rowTiles old)).length
  let s := s.when (ended && !s.temper.sglobDone && late.isEmpty) (·.computeSglob old power s.temper.facs)
  let s := s.when (decide (0 < lateN)) (fun s => (s.bump aOf.tmpErrcnt 0 16 lateN).raise 263)
  let s := s.when (s.temper.derated && !s.temper.deratedPrev) (·.raise 257)
  let sg := s.temper.nextSglob
  let s := s.when (decide (sg < 0xFFFF) && s.temper.sglob == 0xFFFF) (·.raise 258)
  let b := s.beam.setB
  let pub := s.temper.computed.foldl (fun m e => match e.2 with
    | some u => tset (fun _ => none) m e.1 (some (⟨limitF u.fac sg, u.ftr, u.gw, u.tf⟩ : TileFactors))
    | none => m) s.temper.published
  let pub := if en && s.temper.enSeen then pub.filter (fun e => s.tileLive b e.1) else []
  let ran := !s.temper.computed.isEmpty && en && s.temper.enSeen
  let top := maxReading (pub.map (fun e => e.2.map (·.tf)))
  let s := { s with temper := { s.temper with
    published := pub, computed := [], rowsDone := [], facs := [], late := if en && s.temper.enSeen then late else []
    modelled := s.temper.modelled.filter (fun t => s.tileLive b t)
    refSubs := s.temper.refNow, refNow := [], deratedPrev := s.temper.derated, derated := false
    sglob := sg, sglobDone := false } }
  let s := (((s.setBit aOf.tmpStat 6 (!s.temper.refSubs.isEmpty)).setBit aOf.tmpStat 1 s.temper.deratedPrev).setBit aOf.tmpStat 2
    (decide (sg < 0xFFFF))).setBit aOf.tmpStat 0 ran
  let s := s.setF aOf.tmpVbat 16 16 sg
  -- with no tile published ARRAY_MAX keeps its value (DESIGN CHOICE, assumption 99)
  match top with | some v => s.setF aOf.tmpTj 16 16 (unsx 16 (satS 16 (roundEven v 512))) | none => s

/-- EN going to 1 sets the nodes of every tile in an enabled region to its Tb at that edge (R111), with the registers
the edge has latched. -/
def State.temperStart (s : State) : State :=
  let en := s.bit aOf.tmpCtrl 0
  if en && !s.temper.enSeen then
    let s := { s with temper := { s.temper with enSeen := true, modelled := [], lastTb := [] } }
    if s.bit aOf.tmpCtrl 3 then s
    else (s.allTiles s.beam.setB).foldl (fun s t =>
      let tb := s.tbOf t.1 t.2
      let s := (s.noteRef tb.2).putNodes t.1 tb.1 tb.1
      { s with temper := { s.temper with modelled := t.1 :: s.temper.modelled } }) s
  else { s with temper := { s.temper with enSeen := en } }

/-- EN is written 0: the model stops, and the next edge that finds EN set is a first edge again (R111). -/
def State.temperOff (s : State) : State := { s with temper := { s.temper with enSeen := false, late := [] } }

/-! ### The LC temperature band (R100) -/

/-- Threshold `n` in °C. -/
def State.bandTh (s : State) (n : Nat) : Int :=
  sx 8 (if n < 4 then s.f aOf.pipeOdth0 (8 * n) 8 else s.f aOf.pipeOdth1 (8 * (n - 4)) 8)

/-- The panel source delivers a reading in S9.7: at most one band step. With thresholds out of order the rise may hold together
with the fall; the rise is taken then (DESIGN CHOICE, assumption 100). -/
def State.bandReading (s : State) (t : Int) : State :=
  let b := s.pipe.band
  let up := decide (b < 7) && decide (s.bandTh b * 128 ≤ t)
  let down := decide (0 < b) && decide (t < (s.bandTh (b - 1) - 2) * 128)
  { s with pipe := { s.pipe with band := if up then b + 1 else if down then b - 1 else b, bandSeen := true } }

/-- PIPE_ODTH1 TSRC. -/
def State.tsrc (s : State) : Nat := s.f aOf.pipeOdth1 24 3

/-- The mean slow node over the tiles of the enabled regions, when Temper is the panel source; the reading is rounded half to
even to S9.7 (DESIGN CHOICE, assumption 100). -/
def State.bandFromNodes (s : State) (b : Bool) : State :=
  let ts := (s.allTiles b).map (·.1)
  if s.tsrc < 4 ∨ ts.isEmpty then s
  else s.bandReading (roundEven ((ts.map (fun t => s.node16 t 0)).sum) (512 * ts.length))

/-- A valid reading of the NTC the band follows. -/
def State.bandFromNtc (s : State) : State :=
  if !s.domOn pdPipe || 4 ≤ s.tsrc then s
  else match s.ntcReading (s.tsrc + 1) with
    | some v => s.bandReading v
    | none => s

/-- The band is re-evaluated at least once in each frame (R100): a frame that ends without a reading takes one. -/
def State.bandEdge (s : State) : State :=
  let s := s.when (s.pipe.active && !s.pipe.bandSeen) (fun s => (s.bandFromNodes s.pipe.tag.setB).bandFromNtc)
  { s with pipe := { s.pipe with bandSeen := false } }

/-! ### Rows (R112) -/

/-- A tile row of the frame with the tag in force is updated with the powers `pw`. -/
def State.updateRow (s : State) (row : Nat) (pw : Tab Nat) : State :=
  (s.rowTiles s.pipe.tag.setB row).foldl (fun s t => s.updateTile t.1 t.2 (tget (fun _ => 0) pw t.1) s.pipe.tag.period) s

/-- The first late tile row: its frame's tag, powers and factors stand for the update, and after the frame's last row its Sglob
is computed. -/
def State.updateLate (s : State) (l : LateFrame) (rest : List LateFrame) (row : Nat) : State :=
  let tag := s.pipe.tag
  let facs := s.temper.facs
  let s := { s with pipe := { s.pipe with tag := l.tag }, temper := { s.temper with facs := l.facs } }
  let s := s.updateRow row l.power
  let l := { l with rows := l.rows.drop 1, facs := s.temper.facs }
  let done' := s.temper.sglobDone
  let s := s.when l.rows.isEmpty (fun s =>
    let s := s.computeSglob l.tag.setB l.power l.facs
    { s with temper := { s.temper with sglobDone := done' } })
  { s with pipe := { s.pipe with tag := tag }
           temper := { s.temper with facs := facs, late := if l.rows.isEmpty then rest else l :: rest } }

/-- The next tile row of the frame in S1 to update. -/
def State.nextTileRow (s : State) : Option Nat :=
  (s.modelRows s.pipe.tag.setB).find? (fun r => !s.temper.rowsDone.contains r)

/-- A tile row of the frame in S1 is updated; after its last Sglob is computed. -/
def State.updateOnTime (s : State) (row : Nat) : State :=
  let b := s.pipe.tag.setB
  let s := s.when s.modelRuns (·.updateRow row s.pipe.power)
  let s := { s with temper := { s.temper with rowsDone := row :: s.temper.rowsDone } }
  s.when (s.nextTileRow.isNone && !s.temper.sglobDone) (fun s =>
    (s.computeSglob b s.pipe.power s.temper.facs).bandFromNodes b)

/-! ### Commands -/

/-- TILE_ROW_UPDATE (R109 to R116): the first late row of an earlier frame, else the next row of this frame once its lines have
left S4 (R112). -/
def execTileRowUpdate (row : Nat) (s : State) (faults : List CruFault := []) : Res :=
  let s := s.begin
  done (s.when (s.alive && s.domOn pdPipe) (fun s =>
    match s.temper.late with
    | l :: rest => s.when (l.rows.head? == some row) (fun s => (s.meetFaults (s.inThermalRow row) faults).updateLate l rest row)
    | [] => s.when (s.pipe.active && s.nextTileRow == some row && (decide (row * 8 + 9 ≤ s.pipe.nextRow) ||
        decide (s.pipe.nextRow = s.part.gridH))) (fun s => (s.meetFaults (s.inThermalRow row) faults).updateOnTime row)))

/-- ALLOW falls while the device is in BURST (R120): events 259 and 260 as they apply. -/
def State.exhaust (s : State) : State :=
  (s.when (s.f aOf.tmpBurst 0 16 == 0) (·.raise 259)).when (s.bit aOf.tmpStat 4) (·.raise 260)

/-- TMP_STAT ALLOW follows TRIP and B. -/
def State.setAllow (s : State) : State :=
  s.setBit aOf.tmpStat 3 (!s.bit aOf.tmpStat 4 && decide (0 < s.f aOf.tmpBurst 0 16))

/-- PWR_STATE DEVICE. -/
def State.device (s : State) : Nat := s.f aOf.pwrState 0 3

/-- The opacity of layer 15 in force, 0 when it is OFF (R247). -/
def State.opacity15 (s : State) : Nat :=
  let l := s.layer s.beam.setB 15
  if l.type = 0 then 0 else l.opacity

/-- A fade of layer 15 begins at instant `t0` (R247). -/
def State.startFade (s : State) (up : Bool) (target : Lamp) (t0 : Nat) : State :=
  { s with fw := { s.fw with fade := some { up := up, target := target, t0 := t0, a0 := s.opacity15 } } }

/-- SHED while the lamp is LIT: the lamp manager fades to the Ingot (Table 11-4), whatever fade runs. A lamp on its way to LIT
fades from its entry (`enterLamp`). -/
def State.shedFade (s : State) : State :=
  let fading := match s.fw.fade with | some f => f.up && f.target == .ingot | none => false
  s.when (s.fw.started && s.fw.lamp == .lit && s.fw.entering == 0 && !fading) (·.startFade true .ingot s.extNs)

/-- TEMPER_TICK (R118 to R122). -/
def execTemperTick (s : State) : Res :=
  let s := s.begin
  if !(s.alive && s.domOn pdPipe) then done s
  else
    let tj := s.dieMax
    let s := s.setBit aOf.tmpStat 7 tj.isNone
    -- while every sensor is STALE, DIE keeps its value (DESIGN CHOICE, assumption 99)
    let s := match tj with | some v => s.setF aOf.tmpTj 0 16 (unsx 16 v) | none => s
    let pest := (Config.powerEstimate s.free).toNat
    let s := (s.setF aOf.tmpPest 0 16 pest).drawn
    let dev := s.device
    let b0 := s.f aOf.tmpBurst 0 16
    let b := if dev = 4 then b0 - 2 else if dev = 3 ∧ pest < 4000 then min (b0 + 1) 60000 else b0
    let allowed := s.bit aOf.tmpStat 3
    let s := s.setF aOf.tmpBurst 0 16 b
    let hot := match tj with | none => true | some v => decide (120 * 128 ≤ v)
    let cool := match tj with | none => false | some v => decide (v < 115 * 128)
    let s := (if hot then s.setBit aOf.tmpStat 4 true else if cool then s.setBit aOf.tmpStat 4 false else s).setAllow
    let fell := dev == 4 && allowed && !s.bit aOf.tmpStat 3
    let shed := (match tj with | none => false | some v => decide (135 * 128 ≤ v)) && !s.bit aOf.tmpStat 5
    let below := match tj with | none => false | some v => decide (v < 125 * 128)
    let s := { s with temper := { s.temper with belowShed := below } }
    let s := s.when fell (·.exhaust)
    let s := s.when shed (fun s => (s.setBit aOf.tmpStat 5 true).raise 261 |>.shedFade)
    done (if shed then s.makeStep true 1 else if fell then s.makeStep false 2 else s)

/-- BURST_EXHAUSTED (R119, R120): the budget step of a tick in BURST reaches 0, as it does from 2 or less. -/
def execBurstExhausted (s : State) : Res :=
  let s := s.begin
  done (s.when (s.alive && s.domOn pdPipe && s.device == 4 && s.bit aOf.tmpStat 3 && decide (s.f aOf.tmpBurst 0 16 ≤ 2)) (fun s =>
    ((s.setF aOf.tmpBurst 0 16 0).setAllow.exhaust).makeStep false 2))

/-- SHED_END (R121): Tj stayed below 125 °C for 1 s. -/
def execShedEnd (s : State) : Res :=
  let s := s.begin
  done (s.when (s.alive && s.domOn pdPipe && s.bit aOf.tmpStat 5 && s.temper.belowShed) (fun s =>
    (s.setBit aOf.tmpStat 5 false).raise 262))

/-- TEMPER_STEP (R120 to R122, R182): the waiting step takes effect with the next edge, or without edges. -/
def execTemperStep (s : State) : Res :=
  let s := s.begin
  done (s.when (s.alive && s.domOn pdPipe) (·.takeStep))

end Sys2Proof.Machine
end

