-- ==== Sys2Proof/Machine/Pixel.lean ====
section
/-! DEFINITION. The pixel pipeline (R84 to R107): defects and drive (S4), thermal scale (S5), mask gate (S6),
transfer curve (S7), overdrive and transient compensation (S8), dither (S9), packing and the slice lines
(S10), poison (R28, R29), and the commands of that family. Stages S2 and S3 are in `Beam.lean`. -/

namespace Sys2Proof.Machine

open Sys2Proof

/-! ### Defect list (R91, R92) -/

/-- A defect entry (Table 04-3) of TYPE 1 to 3. -/
structure Defect where
  x : Nat
  y : Nat
  type : Nat
  frac : Nat
  w : Word
deriving DecidableEq, Repr

/-- Entry `i` of the list in use. -/
def State.defectEntry (s : State) (i : Nat) : Defect :=
  let a := s.part.defectBase + s.lf aOf.pipeCtrl 6 1 * 131072 + i * 8
  let lo := s.cruWord a
  { x := fld lo 0 12, y := fld lo 12 10, type := fld lo 22 2, frac := fld lo 24 8, w := s.cruWord (a + 4) }

/-- What S4 makes of the list: the entries in order, the last position, and the rows at whose reading an
entry out of order was met. -/
structure DefectWalk where
  entries : List Defect
  last : Option (Nat × Nat)
  badAt : List Nat

/-- One entry of TYPE 1 to 3 in row-major order is taken, any other skipped. -/
def DefectWalk.step (k : DefectWalk) (d : Defect) : DefectWalk :=
  if d.type = 0 then k
  else match k.last with
    | none => { k with entries := k.entries ++ [d], last := some (d.y, d.x) }
    | some (ly, lx) =>
      if ly < d.y ∨ (ly = d.y ∧ lx < d.x) then { k with entries := k.entries ++ [d], last := some (d.y, d.x) }
      else { k with badAt := ly :: k.badAt }

/-- The walk over the list in use; empty with DEF_EN = 0. -/
def State.defectWalk (s : State) : DefectWalk :=
  let n := if s.lf aOf.pipeCtrl 5 1 = 1 then min (s.lf (aOf.pipeDefcnt (s.lf aOf.pipeCtrl 6 1)) 0 15) 16384 else 0
  (List.range n).foldl (fun k i => k.step (s.defectEntry i)) ⟨[], none, []⟩

/-- The defects that lie in an enabled region of set `b`. -/
def State.defects (s : State) (b : Bool) : List Defect :=
  (s.defectWalk.entries).filter (fun d => (s.regionAt b d.x d.y).isSome)

/-- The defect at a pixel. -/
def defectAt (ds : List Defect) (x y : Nat) : Option Defect := ds.find? (fun d => d.x == x && d.y == y)

/-- Neighbour `k` of a pixel: NW, N, NE, W, E, SW, S, SE. -/
def neighbour (k : Nat) : Int × Int :=
  match k with
  | 0 => (-1, -1) | 1 => (0, -1) | 2 => (1, -1) | 3 => (-1, 0) | 4 => (1, 0) | 5 => (-1, 1) | 6 => (0, 1) | _ => (1, 1)

/-- The share of a defect's missing light that its neighbour `k` receives (R92). -/
def Defect.share (d : Defect) (l k : Nat) : Int :=
  let m := match d.type with | 1 => 256 | 2 => 256 - f8 d.frac | _ => 0
  roundEven (l * m * fld d.w (4 * k) 4 : Nat) 4096

/-- What a pixel of region `g` that is not DEAD receives from the defects beside it. -/
def State.recv (s : State) (b : Bool) (ds : List Defect) (g : Region) (x y : Nat) : Int :=
  ((List.range 8).map (fun k =>
    let n := neighbour k
    match ds.find? (fun d => decide ((d.x : Int) + n.1 = x) && decide ((d.y : Int) + n.2 = y)) with
    | none => 0
    | some d =>
      match s.regionAt b d.x d.y with
      | some (r, h) => if h.plane = g.plane then d.share (s.compose b r h d.x d.y) k else 0
      | none => 0)).sum

/-! ### S4 to S7 for one pixel -/

/-- What S4 to S7 produce for a pixel: its drive, the drive counted in the tile's power (R93), the drive behind the gate,
its level C, and whether a gate below 1 fell on a STUCK_ON pixel (R95). -/
structure Shaded where
  drive : Nat
  power : Nat
  gated : Nat
  level : Nat
  glare : Bool

/-- The flat-field gain code of a pixel (R89). -/
def State.flatCode (s : State) (x y : Nat) : Nat :=
  let bit := 10 * (y % 8 * 8 + x % 8)
  s.cruHalf (s.part.flatBase + s.part.packed (tileOf x y) * 80 + bit / 8) / 2 ^ (bit % 8) % 1024

/-- The drive of a pixel with composed light `l` (R90). -/
def driveOf (l : Int) (g gw : Nat) : Nat :=
  let gc := min (roundEven ((512 + g) * gw : Nat) 1024) 4095
  sat20 (roundEven (l * gc) 1024)

/-- The transfer curve of plane `p` at drive `d` (R96). -/
def State.curve (s : State) (b : Bool) (p d : Nat) : Nat :=
  let e (i : Nat) : Int := fld (s.setWord b (offCurve p + 4 * i)) 0 20
  let i := d / 256
  let e1 := if i < 4095 then e (i + 1) else e 4095
  sat20 (roundEven (e i * 256 + (e1 - e i) * (d % 256 : Nat)) 256)

/-- S3 to S7 at a pixel of region `r`. -/
def State.shade (s : State) (b : Bool) (ds : List Defect) (r : Nat) (g : Region) (x y : Nat) : Shaded :=
  let fac := s.factors (tileOf x y)
  let def' := defectAt ds x y
  let type := match def' with | some d => d.type | none => 0
  let d := if type = 1 then 0 else driveOf (s.compose b r g x y + s.recv b ds g x y) (s.flatCode x y) fac.gw
  let d5 := sat20 (roundEven (d * fac.f : Nat) 16384)
  let gate := s.gate (s.optical b r (x - g.x0) (y - g.y0))
  let d6 := sat20 (roundEven (d5 * gate : Nat) 65536)
  { drive := d, power := if type = 3 then 0xFFFFF else d, gated := d6, level := s.curve b g.plane d6
    glare := type == 3 && decide (gate < 65536) }

/-! ### S8: the LC waveform (R97, R99, R101, R102) -/

/-- Window offset and bit of the previous-frame entry of in-tile pixel `k`. -/
def Part.prevAt (p : Part) (t k : Nat) : Nat × Nat := (p.prevBase + p.packed t * 96 + 12 * k / 8, 12 * k % 8)

/-- The 12-bit previous-frame entry of a pixel: level in [11:2], step in [1:0]. -/
def State.prevEntry (s : State) (t k : Nat) : Nat :=
  let a := s.part.prevAt t k
  s.cruHalf a.1 / 2 ^ a.2 % 4096

/-- Store it. -/
def State.setPrev (s : State) (t k v : Nat) : State :=
  let a := s.part.prevAt t k
  let h := s.cruHalf a.1
  let w := h % 2 ^ a.2 + v % 4096 * 2 ^ a.2 + h / 2 ^ (a.2 + 12) * 2 ^ (a.2 + 12)
  s.cruPut a.1 [BitVec.ofNat 8 w, BitVec.ofNat 8 (w / 256)]

/-- Window offset of a tile's waveform tag. -/
def Part.waveAt (p : Part) (t : Nat) : Nat := p.tileBase + p.slots * 60 + p.packed t * 2

/-- A waveform tag: SET, BAND, BUSY. -/
structure Wave where
  setB : Bool
  band : Nat
  busy : Nat

/-- The waveform tag of a tile. -/
def State.wave (s : State) (t : Nat) : Wave :=
  let v := s.cruHalf (s.part.waveAt t)
  ⟨v % 2 == 1, v / 2 % 8, v / 16 % 128⟩

/-- Store a waveform tag. -/
def State.setWave (s : State) (t : Nat) (w : Wave) : State :=
  let v := b2n w.setB + w.band % 8 * 2 + w.busy % 128 * 16
  s.cruPut (s.part.waveAt t) [BitVec.ofNat 8 v, BitVec.ofNat 8 (v / 256)]

/-- Every waveform of a tile ends: its steps and its tag become 0 (R97). -/
def State.clearWave (s : State) (t : Nat) : State :=
  let s := if (s.wave t).busy = 0 then s
    else (List.range 64).foldl (fun s k =>
      let e := s.prevEntry t k
      s.when (e % 4 != 0) (·.setPrev t k (e / 4 * 4))) s
  s.setWave t ⟨false, 0, 0⟩

/-- A word of the overdrive record of a band (Table 04-4). -/
def State.odWord (s : State) (b : Bool) (band off : Nat) : Word := s.setWord b (offOverdrive + band * 8716 + off)

/-- LEN of a band record. -/
def State.odLen (s : State) (b : Bool) (band : Nat) : Nat := fld (s.odWord b band 0) 0 2

/-- Bilinear interpolation in a 33 × 33 table of a band record (R99); a node of weight 0 is not read. -/
def State.odTable (s : State) (b : Bool) (band base p t : Nat) : Nat :=
  let i := p / 32768; let fi := p % 32768; let j := t / 32768; let fj := t % 32768
  let at_ (w a c : Nat) : Nat := if w = 0 then 0 else w * fld (s.odWord b band (base + (a * 33 + c) * 4)) 0 20
  sat20 (roundEven (at_ ((32768 - fi) * (32768 - fj)) i j + at_ (fi * (32768 - fj)) (i + 1) j
    + at_ ((32768 - fi) * fj) i (j + 1) + at_ (fi * fj) (i + 1) (j + 1) : Nat) (2 ^ 30))

/-- narrow10 of R102. -/
def narrow10 (t : Nat) : Nat := min (roundEven t 1024).toNat 1023

/-- S8 in LC-shutter mode with OD_EN = 1 for a pixel whose target is `c` (R102). -/
def State.waveform (s : State) (t k c : Nat) : State × Nat :=
  let e := s.prevEntry t k
  let p := e / 4
  let pw := p * 1024 + p
  let w := s.wave t
  let set := s.pipe.tag.setB
  let band := s.pipe.tag.band
  if e % 4 = 0 then
    let want := decide (s.lf aOf.pipeOdthr 0 12 * 256 < (if c ≤ pw then pw - c else c - pw)) && decide (2 ≤ s.odLen set band)
    if want && (w.busy == 0 || (w.setB == set && w.band == band)) then
      let s := (s.setWave t ⟨set, band, w.busy + 1⟩).setPrev t k (p * 4 + 1)
      (s, s.odTable set band 4 pw c)
    else if want then (s, c)
    else (s.setPrev t k (narrow10 c * 4), c)
  else
    let step := e % 4 + 1
    if step < s.odLen w.setB w.band then (s.setPrev t k (p * 4 + step), s.odTable w.setB w.band 4360 pw c)
    else ((s.setPrev t k (narrow10 c * 4)).setWave t { w with busy := w.busy - 1 }, c)

/-- S8 for one pixel (R97, R98). -/
def State.stage8 (s : State) (x y c : Nat) : State × Nat :=
  let t := tileOf x y
  let k := y % 8 * 8 + x % 8
  if s.lf aOf.pipeCtrl 0 1 = 0 then
    (s, if s.lf aOf.pipeCtrl 3 1 = 1 then sat20 (roundEven (c * (s.factors t).ftr : Nat) 16384) else c)
  else if s.pipe.tag.lcStart || s.lf aOf.pipeCtrl 2 1 == 0 then (s.setPrev t k (narrow10 c * 4), c)
  else s.waveform t k c

/-! ### S9 and S10 -/

/-- The threshold matrix entry for column `a`, row `r` (R103). -/
def State.dither (s : State) (b : Bool) (a r : Nat) : Nat := s.cruHalf (s.part.setBase b + offDither + (r * 64 + a) * 2)

/-- The dither offsets of a frame: column and row. -/
def State.dithOfs (s : State) (frame : Word) : Nat × Nat :=
  let q := frame.toNat % 4
  let a := if q < 2 then aOf.pipeDithofs0 else aOf.pipeDithofs1
  (s.lf a (q % 2 * 16) 6, s.lf a (q % 2 * 16 + 8) 6)

/-- The driver code of a level at a code depth (R103). -/
def State.quantise (s : State) (bits x y c8 : Nat) : Nat :=
  if c8 = 0xFFFFF then 2 ^ bits - 1
  else
    let v := c8 * (2 ^ bits - 1)
    let o := s.dithOfs s.pipe.tag.number
    let t := if s.lf aOf.pipeCtrl 4 1 = 1 then s.dither s.pipe.tag.setB ((x + o.1) % 64) ((y + o.2) % 64) else 0x7FFF
    v / 2 ^ 20 + b2n (decide (t < v % 2 ^ 20 / 16))

/-- Code `j` of a data block at [b × j + b − 1:b × j] (R104). -/
def packBlock (bits : Nat) (codes : List Nat) : BitVec 64 :=
  BitVec.ofNat 64 ((codes.zipIdx).foldl (fun a c => a + c.1 * 2 ^ (bits * c.2)) 0)

/-- The data blocks of a line. -/
def packLine (depth : Nat) (codes : List Nat) : List (BitVec 64) :=
  let k := codesPerBlock depth
  (List.range (ceilDiv codes.length k)).map (fun j => packBlock (depthBits depth) ((codes.drop (j * k)).take k))

/-- The eight payload bytes of a block. -/
def blockBytes (b : BitVec 64) : List Byte := (List.range 8).map (fun i => BitVec.ofNat 8 (payByte b i))

/-- An SOL block (Table 06-2). -/
def solBlock (row plane split depth width : Nat) : BitVec 64 :=
  payOf [0x4B, row % 256, row / 256, 0, 0, plane + split * 4 + depth * 16, width % 256, width / 256]

/-- An END block; a poisoned line carries the inverse of its CRC (R28). -/
def endBlock (row : Nat) (data : List (BitVec 64)) (poison : Bool) : BitVec 64 :=
  let c := crc16 (data.flatMap blockBytes)
  let c := (if poison then ~~~c else c).toNat
  payOf [0x55, c % 256, c / 256, row % 256, row / 256, 0, 0, 0]

/-- Lane `n` sends a data block. A waiting error injection inverts one bit, or 16 bits in a row, of it on the line (R152); which
ones is an open value. -/
def State.sendData (s : State) (n : Nat) (b : BitVec 64) : State :=
  match (s.lane n).inject with
  | none => s.sendBlock n false b
  | some burst =>
    let len := if burst then 16 else 1
    let at_ := (Config.measured s.free).toNat % (65 - len)
    (s.drawn.setLane n { s.lane n with inject := none }).sendFlipped n false b (BitVec.ofNat 64 ((2 ^ len - 1) * 2 ^ at_))

/-! ### The output buffer of a pair (R131, R138) -/

/-- The backlog of lane `n` once the clocks `c` of a row have passed. -/
def State.drained (s : State) (n c : Nat) : Nat := (s.lane n).backlog - c * 8000

/-- How many of the `k` blocks of a line do not fit the 2,048 blocks that the lanes of its pair share, and how many still wait
at the SOF slot of the next frame; the row takes `c` clocks. The line leaves by the timing of R84 and R138 (assumption 20). -/
def State.lineOver (s : State) (n k c : Nat) : Nat × Nat :=
  let den := s.blockUnits n
  let q := (s.lane n).backlog + k * den - c * 8000
  let other := n / 2 * 2 + (n + 1) % 2
  let held := ceilDiv q den + ceilDiv (s.drained other c) (s.blockUnits other)
  (min k (held - 2048),
   if s.time.running then min k (ceilDiv (s.pipe.clocks * 8000 + q - 8 * opMhz s.op * s.pipe.tag.period) den) else 0)

/-- A line of `k` blocks joins the backlog of lane `n`, less the blocks that do not fit the buffer: such a line counts in
LNKn_ERR OVF at once, one that the next SOF cuts counts there (R131). -/
def State.queueLine (s : State) (n k : Nat) (lost : Nat × Nat) : State :=
  let l := s.lane n
  let s := s.setLane n { l with backlog := l.backlog + (k - lost.1) * s.blockUnits n
                                cuts := l.cuts + b2n (lost.1 == 0 && lost.2 != 0) }
  s.when (lost.1 != 0) (fun s => (s.bump (aOf.laneErr n) 16 8 1).countError n)

/-- One lane sends its share of a slice line, as far as it leaves before the next SOF (R129 to R131), and tells whether the line
was cut. -/
def State.sendLine (s : State) (d : SliceD) (row plane c : Nat) (blocks : List (BitVec 64)) (poison : Bool) (l : Nat × Nat) :
    State × Bool :=
  let n := l.1
  if s.laneOn n && s.laneState n == lnUp && !(s.lane n).resting then
    let mine := (blocks.zipIdx.filter (fun e => l.2 == 0 || e.2 % 2 + 1 == l.2)).map (·.1)
    let k := mine.length + 2
    let lost := s.lineOver n k c
    let keep := k - max lost.1 lost.2
    let s := s.queueLine n k lost
    let s := s.when (decide (0 < keep)) (·.sendBlock n true (solBlock row plane l.2 d.depth d.w))
    let s := (mine.take (keep - 1)).foldl (·.sendData n ·) s
    (s.when (keep == k) (·.sendBlock n true (endBlock row mine poison)), keep != k)
  else (s, false)

/-- The lanes drain for the clocks `c` of a row. -/
def State.drainLanes (s : State) (c : Nat) : State :=
  (List.range s.part.lanes).foldl (fun s n =>
    s.when ((s.lane n).backlog != 0) (fun s => s.setLane n { s.lane n with backlog := s.drained n c })) s

/-- The read-back query of a slice after its queried row (R150): one per frame, stepping through 48-column
windows; pixels of the defect list are not compared, nor is a row whose line was cut. -/
def State.queryRow (s : State) (ds : List Defect) (i : Nat) (d : SliceD) (y : Nat) (codes : List Nat) (cut : Bool) : State :=
  let l := s.slice i
  let f := s.pipe.tag.number
  if (s.bit aOf.lnkCtrl 1 || l.sweep) && l.rbRow == y - d.y0 && l.rbAt != some f then
    let n := min 48 (d.w - l.rbCol)
    let expect := (List.range n).map (fun j =>
      let x := d.x0 + l.rbCol + j
      if cut || (defectAt ds x y).isSome then none else some (rbExpect (codes.getD (l.rbCol + j) 0) (depthBits d.depth)))
    let nextCol := l.rbCol + n
    let wrap := decide (d.w ≤ nextCol)
    let q : RbQuery := { tag := l.rbTag, row := l.rbRow, expect := expect, answered := [], frame := f }
    (s.setSlice i { l with
      rbCol := if wrap then 0 else nextCol, rbRow := if wrap then (l.rbRow + 1) % max d.h 1 else l.rbRow
      sweep := l.sweep && !(wrap && (l.rbRow + 1) % max d.h 1 == 0)
      rbTag := (l.rbTag + 1) % 16, rbAt := some f, queries := l.queries ++ [q] }).queueMgmt i (.rbq l.rbRow l.rbCol n l.rbTag)
  else s

/-! ### The words a pixel reads (R28, R194) -/

/-- The texels of `n` bytes each that sampling a texture around content coordinates reads (R44). -/
def texReads (base n w h : Nat) (a c : Int) (q : Nat) (p : Int × Int) : List (Nat × Nat) :=
  let u := (p.1 - a) / q
  let v := (c - p.2) / q
  [(u, v), (u + 1, v), (u, v + 1), (u + 1, v + 1)].filterMap (fun (t : Int × Int) =>
    if 0 ≤ t.1 ∧ t.1 < (w : Int) ∧ 0 ≤ t.2 ∧ t.2 < (h : Int) then some (base + (t.2.toNat * w + t.1.toNat) * n, n) else none)

/-- What an enabled layer's sample reads (R43). -/
def State.layerReads (s : State) (b : Bool) (k : Nat) (l : Layer) (x y : Nat) (o : Int × Int) : List (Nat × Nat) :=
  let base := s.part.setBase b
  match l.type with
  | 1 =>
    let d := s.pattern b (fld l.src 0 3)
    (base + 0x20 + fld l.src 0 3 * 16, 16) ::
      (if d.w = 0 then [] else texReads (d.base * 4096) 2 d.w d.h d.h0 d.v0 d.pitch (s.content l.offsetEn o))
  | 2 =>
    let t := tileOf x y
    let e := s.mapEntry t
    (s.part.tileBase + s.part.slots * 56 + s.part.packed t * 4, 4) ::
      (if bitOf e 31 then [] else [(s.part.slotPixel (fld e 0 17) (y % 8 * 8 + x % 8), 2)])
  | 3 =>
    (base + 0xA0, 512) :: (List.range 64).flatMap (fun i =>
      let p := s.placement b i
      if p.layer ≠ k ∨ p.pitch = 0 then []
      else (s.part.glyphBase + p.glyph * 8, 8) :: (match s.glyph p.glyph with
        | none => []
        | some (off, w, h) => texReads (s.part.glyphBase + off) 1 w h p.h p.v p.pitch (s.content l.offsetEn o)))
  | _ => []

/-- What S2 and S3 read at a pixel of region `r`: mesh nodes of weight, layer records, and what the layers sample. -/
def State.composeReads (s : State) (b : Bool) (r : Nat) (g : Region) (x y : Nat) : List (Nat × Nat) :=
  let base := s.part.setBase b
  let i := x - g.x0
  let j := y - g.y0
  let o := s.optical b r i j
  let node (c d : Nat) : Nat × Nat := (base + offMesh + r * 4420 + ((j / 64 + d) * 65 + i / 64 + c) * 4, 4)
  let nodes := node 0 0 :: ((if i % 64 = 0 then [] else [node 1 0]) ++ (if j % 64 = 0 then [] else [node 0 1]) ++
    (if i % 64 = 0 ∨ j % 64 = 0 then [] else [node 1 1]))
  (base, 32) :: (base + offLayers, 128) :: (nodes ++ (List.range 16).flatMap (fun k =>
    let l := s.layer b k
    if l.type = 0 ∨ l.planes / 2 ^ g.plane % 2 = 0 then [] else s.layerReads b k l x y o))

/-- The entries of the defect list in use that lie within one row of `y`. -/
def State.defectReads (s : State) (y : Nat) : List (Nat × Nat) :=
  let l := s.lf aOf.pipeCtrl 6 1
  let n := if s.lf aOf.pipeCtrl 5 1 = 1 then min (s.lf (aOf.pipeDefcnt l) 0 15) 16384 else 0
  ((List.range n).filter (fun i => within (s.defectEntry i).y y 1)).map (fun i => (s.part.defectBase + l * 131072 + i * 8, 8))

/-- The nodes of weight a 33 × 33 overdrive table gives up at (p, t) (R99). -/
def State.odReads (s : State) (b : Bool) (band base p t : Nat) : List (Nat × Nat) :=
  let i := p / 32768; let j := t / 32768
  let at_ (a c : Nat) : Nat × Nat := (s.part.setBase b + offOverdrive + band * 8716 + base + (a * 33 + c) * 4, 4)
  at_ i j :: ((if p % 32768 = 0 then [] else [at_ (i + 1) j]) ++ (if t % 32768 = 0 then [] else [at_ i (j + 1)]) ++
    (if p % 32768 = 0 ∨ t % 32768 = 0 then [] else [at_ (i + 1) (j + 1)]))

/-- What S8 reads in LC-shutter mode with overdrive: the previous-frame entry, the waveform tag, and the band record of
a waveform that begins or runs (R102). -/
def State.waveReads (s : State) (t k c : Nat) : List (Nat × Nat) :=
  let e := s.prevEntry t k
  let pw := e / 4 * 1024 + e / 4
  let w := s.wave t
  let here := [((s.part.prevAt t k).1, 2), (s.part.waveAt t, 2)]
  let rec4 (b : Bool) (band : Nat) : Nat × Nat := (s.part.setBase b + offOverdrive + band * 8716, 4)
  if e % 4 ≠ 0 then rec4 w.setB w.band :: (s.odReads w.setB w.band 4360 pw c ++ here)
  else if s.lf aOf.pipeOdthr 0 12 * 256 < (if c ≤ pw then pw - c else c - pw) then
    rec4 s.pipe.tag.setB s.pipe.tag.band :: (s.odReads s.pipe.tag.setB s.pipe.tag.band 4 pw c ++ here)
  else here

/-- Every byte range the stages S1 to S9 read for a pixel. -/
def State.pixelReads (s : State) (b : Bool) (ds : List Defect) (r : Nat) (g : Region) (x y : Nat) (v : Shaded) : List (Nat × Nat) :=
  let base := s.part.setBase b
  let t := tileOf x y
  let k := y % 8 * 8 + x % 8
  let beside := (List.range 8).flatMap (fun k =>
    let n := neighbour k
    match ds.find? (fun d => decide ((d.x : Int) + n.1 = x) && decide ((d.y : Int) + n.2 = y)) with
    | none => []
    | some d => match s.regionAt b d.x d.y with
      | some (q, h) => if h.plane = g.plane then s.composeReads b q h d.x d.y else []
      | none => [])
  let o := s.dithOfs s.pipe.tag.number
  (s.part.flatBase + s.part.packed t * 80 + 10 * k / 8, 2) ::
  (base + offCurve g.plane + 4 * (v.gated / 256), if v.gated / 256 < 4095 then 8 else 4) ::
  (s.composeReads b r g x y ++ beside ++ s.defectReads y ++
    (if s.lf aOf.pipeCtrl 0 1 = 1 ∧ s.lf aOf.pipeCtrl 2 1 = 1 ∧ ¬ s.pipe.tag.lcStart then s.waveReads t k v.level else []) ++
    (if s.lf aOf.pipeCtrl 4 1 = 1 then [(base + offDither + ((y + o.2) % 64 * 64 + (x + o.1) % 64) * 2, 2)] else []))

/-- The uncorrectable words among some byte ranges. -/
def State.poisonedOf (s : State) (rs : List (Nat × Nat)) : List Nat :=
  s.cru.poison.filter (fun w => rs.any (fun r => overlap r.1 r.2 (w * 8) 8))

/-! ### One row -/

/-- Insert a region in ascending X0. -/
def insertRegion (g : Nat × Region) : List (Nat × Region) → List (Nat × Region)
  | [] => [g]
  | h :: r => if g.2.x0 ≤ h.2.x0 then g :: h :: r else h :: insertRegion g r

/-- The enabled regions of row `y` in ascending X0. -/
def State.rowRegions (s : State) (b : Bool) (y : Nat) : List (Nat × Region) :=
  ((s.liveRegions b).filter (fun g => decide (g.2.y0 ≤ y) && decide (y < g.2.y0 + g.2.h))).foldr insertRegion []

/-- What the scan of a row gathers besides the state: the level of each pixel, and the uncorrectable words it read. -/
structure RowScan where
  levels : List (Nat × Nat)
  bad : List Nat

/-- S2 to S8 of a row: the levels of its pixels, with the power of S4, the glare of S6 and the state of S8. -/
def State.scanPixels (s : State) (ds : List Defect) (y : Nat) : State × RowScan :=
  let b := s.pipe.tag.setB
  let px := (s.rowRegions b y).flatMap (fun g => (List.range g.2.w).map (fun i => (g.2.x0 + i, g)))
  px.foldl (fun (a : State × RowScan) e =>
    let s := a.1
    let x := e.1
    let t := tileOf x y
    let v := s.shade b ds e.2.1 e.2.2 x y
    let s := { s with pipe := { s.pipe with power := tset (fun _ => 0) s.pipe.power t (tget (fun _ => 0) s.pipe.power t + v.power) } }
    let s := s.when (v.glare && s.pipe.glare.isNone) (fun s => ({ s with pipe := { s.pipe with glare := some (x, y) } }).raise 196)
    let s := s.when (x % 8 == 0 && y % 8 == 0 && (s.pipe.tag.lcStart || s.pipe.tag.lcEnd)) (·.clearWave t)
    let bad := if s.cru.poison.isEmpty then [] else s.poisonedOf (s.pixelReads b ds e.2.1 e.2.2 x y v)
    let r := s.stage8 x y v.level
    (r.1, ⟨a.2.levels ++ [(x, r.2)], a.2.bad ++ bad.filter (fun w => !a.2.bad.contains w)⟩)) (s, ⟨[], []⟩)

/-- The line of slice `i` in row `y`, on the lanes that carry it. -/
def State.sliceLine (s : State) (ds : List Defect) (levels : List (Nat × Nat)) (poison : Bool) (y i : Nat) : State :=
  let d := sliceOf s.latched i
  if s.sliceState i == slLit && d.hasRow y then
    let bits := depthBits d.depth
    let codes := (List.range d.w).map (fun j =>
      match levels.find? (fun e => e.1 == d.x0 + j) with
      | some e => s.quantise bits e.1 y e.2
      | none => 0)
    let plane := match (s.rowRegions s.pipe.tag.setB y).find? (fun g =>
        decide (g.2.x0 < d.x0 + d.w) && decide (d.x0 < g.2.x0 + g.2.w)) with
      | some g => g.2.plane
      | none => 0
    let blocks := packLine d.depth codes
    let r := (s.carrying i).foldl (fun (a : State × Bool) l =>
      let b := a.1.sendLine d (y - d.y0) plane (s.rowClocks s.pipe.tag.setB y) blocks poison l
      (b.1, a.2 || b.2)) (s, false)
    r.1.queryRow ds i d y codes r.2
  else s

/-- The tile powers of a completed tile row: sums over 64 pixels become means in U0.20 (R93). -/
def State.closeTileRow (s : State) (row : Nat) : State :=
  { s with pipe := { s.pipe with power := s.pipe.power.foldl (fun m e =>
      if e.1 / 512 = row then tset (fun _ => 0) m e.1 (roundEven e.2 64).toNat else m) s.pipe.power } }

/-- A row went out poisoned (R28): event 192 for a tag-parity error, 193 for the uncorrectable words `bad`; POISON. -/
def State.poisonRow (s : State) (err : LineError) (bad : List Nat) (y : Nat) : State :=
  let n := ((List.range 64).filter (fun i => s.sliceState i == slLit && (sliceOf s.latched i).hasRow y)).length
  let s := s.when (err == .tagParity) (·.raise 192)
  let s := s.when (!bad.isEmpty) (fun s => bad.foldl (fun s w => s.cruUncorrectable (w * 8)) (s.raise 193))
  ({ s with pipe := { s.pipe with poisoned := true } }).bump aOf.pipeErrcnt 0 16 (max n 1)

/-- The last row has left S1: PIPE_SCAN and PIPE_GLARE report the frame. -/
def State.frameScanned (s : State) : State :=
  let s := s.setF aOf.pipeScan 0 20 (s.cScan s.pipe.tag.setB)
  s.wr aOf.pipeGlare (match s.pipe.glare with
    | some (x, y) => BitVec.ofNat 32 (2 ^ 31 + x * 65536 + y)
    | none => 0#32)

/-- One row of the frame in S1 (R85). -/
def State.scanRow (s : State) (y : Nat) (err : LineError) : State :=
  let b := s.pipe.tag.setB
  let k := s.defectWalk
  let ds := s.defects b
  let s := s.when (!s.pipe.orderSeen && k.badAt.any (fun r => decide (r ≤ y))) (fun s =>
    ({ s with pipe := { s.pipe with orderSeen := true } }).raise 197)
  let s := match err with | .corrected off => s.noteCorrected (off / 8) 72 | _ => s
  let c := s.rowClocks b y
  let r := ({ s with pipe := { s.pipe with clocks := s.pipe.clocks + c } }).scanPixels ds y
  let ue := match err with
    | .uncorrectable off => off / 8 :: r.2.bad.filter (· != off / 8)
    | _ => r.2.bad
  let bad := err == .tagParity || !ue.isEmpty
  let s := ((List.range 64).foldl (·.sliceLine ds r.2.levels bad y ·) r.1).drainLanes c
  let s := s.when bad (·.poisonRow err ue y)
  let s := s.when (y % 8 == 7) (·.closeTileRow (y / 8))
  let s := { s with pipe := { s.pipe with nextRow := y + 1 } }
  let s := s.when (y + 1 == s.part.gridH) (·.frameScanned)
  s.answerWhere (fun r => decide (r.wait = .nextLine)) stOk (fun _ _ => [])

/-! ### Commands -/

/-- LINE_SCAN (R84 to R107): the next row of the frame in S1. -/
def execLineScan (row : Nat) (err : LineError) (s : State) : Res :=
  let s := s.begin
  done (s.when (s.pourOn && s.pipe.active && s.pipe.nextRow == row && decide (row < s.part.gridH)) (·.scanRow row err))

/-- The run of consecutive poisoned frames, the frame in S1 included. -/
def State.poisonFrames (s : State) : Nat := s.pipe.poisonRun + b2n s.pipe.poisoned

/-- Every forward lane goes to electrical idle (R29). -/
def State.haltLanes (s : State) : State :=
  (List.range s.part.lanes).foldl (fun s n => s.when (s.laneOn n) (fun s => (s.toLane n lnIdle).emit (.idle n))) s

/-- Firmware restarts a halted pipeline (R29 allows it): first the pour flush. -/
def State.startRestart (s : State) : State :=
  s.when (s.fwRuns && s.fw.lamp != .off && s.fw.leaving.isNone && s.fw.entering == 0) (fun s =>
    ({ s with fw := { s.fw with restart := 1 } }).flushOp)

/-- POISON_HALT (R29). -/
def execPoisonHalt (s : State) : Res :=
  let s := s.begin
  done (s.when (s.pourOn && decide (16 ≤ s.poisonFrames) && !s.bit aOf.pipeStat 4) (fun s =>
    (((s.setBit aOf.pipeStat 4 true).raise 194).haltLanes).startRestart))

end Sys2Proof.Machine
end

