-- ==== Sys2Proof/Machine/Seg.lean ====
section
/-! DEFINITION. The segment port (R157 to R166): segment frames, waveform levels, the VLCD supervision, the
segment plane and output read-back, and the commands of that family. -/

namespace Sys2Proof.Machine

open Sys2Proof

/-- The segment port can work: present, powered, the device running. -/
def State.segOn (s : State) : Bool := s.alive && s.part.hasSeg && s.domOn pdSeg

/-- A field of a segment register as the frame in progress sees it. -/
def State.segF (s : State) (a lo len : Nat) : Nat := fld (tget (resetValue s.part) s.seg.latched a) lo len

/-- SEG_CTRL EN. -/
def State.segEn (s : State) : Bool := s.bit aOf.segCtrl 0

/-- SEG_STAT RUN. -/
def State.segRun (s : State) : Bool := s.bit aOf.segStat 0

/-- SEG_STAT VLCD_OK. -/
def State.vlcdOk (s : State) : Bool := s.bit aOf.segStat 2

/-- N of a DUTY code: 1, 4 or 8; 3 acts as 2. -/
def dutyN (d : Nat) : Nat := if d = 0 then 1 else if d = 1 then 4 else 8

/-- N of the frame in progress. -/
def State.segN (s : State) : Nat := dutyN (s.segF aOf.segCtrl 1 2)

/-- Every output at 0 V, frames not running, BLANK set. -/
def State.segBlank (s : State) : State :=
  (({ s with seg := { s.seg with levels := List.replicate 104 0, slot := 0 } }).setBit aOf.segStat 0 false).setBit
    aOf.segStat 1 true |>.emit (.levels (List.replicate 104 0))

/-! ### The segment plane (R164) -/

/-- The code of cell (segment, common), at byte m × 96 + s of the plane window. -/
def State.cell (s : State) (seg com : Nat) : BitVec 4 := tget (fun _ => 0#4) s.beam.plane (com * 96 + seg)

/-- Write a cell. -/
def State.setCell (s : State) (seg com : Nat) (v : BitVec 4) : State :=
  { s with beam := { s.beam with plane := tset (fun _ => 0#4) s.beam.plane (com * 96 + seg) v } }

/-- A word of SEG_PLANE. -/
def State.planeView (s : State) (w : Nat) : Word :=
  BitVec.ofNat 32 ((List.range 4).foldl (fun a i => a + (tget (fun _ => 0#4) s.beam.plane (4 * w + i)).toNat * 256 ^ i) 0)

/-- The cells of a SEG_WRITE, row by row of commons. -/
def State.putCells (s : State) (p : Pour) : State :=
  (List.range (p.hdr.wd * p.hdr.ht)).foldl (fun s i =>
    s.setCell (p.hdr.x0 + i % p.hdr.wd) (p.hdr.y0 + i / p.hdr.wd) ((byteAt p.payload i).setWidth 4)) s

/-- A SEG_WRITE is ready (R70). -/
def State.segReady (s : State) (p : Pour) : Bool := p.complete && s.runnersClear p && !s.fenced p.key

/-- One waiting SEG_WRITE at the segment frame start `ts`, by the commit rule (R70, R73); a FENCE that is due completes
before the pours behind it are judged (R75). -/
def State.segPour (s : State) (ts : Word) (k : PourKey) : State :=
  match s.findPour k with
  | none => s
  | some p =>
    if p.op = .fence then s.when (s.fenceReady p) (·.endFence p)
    else if p.op.cls = .segment ∧ p.phase = .waiting then
      let dueNow := match p.launch with | none => true | some l => dueAt l ts
      let p := { p with seenDue := p.seenDue || dueNow }
      let s := s.putPour p
      if !p.seenDue then s
      else if s.segReady p then
        let p := { p with frame := some s.frameNo }
        ((s.putCells p).commitId p).okPour p
      else if p.launch.isSome then
        let p := { p with late := true }
        if p.hdr.strict then s.failPour p .late else s.putPour p
      else s
    else s

/-- The Ingot's segment image replaces the whole plane. -/
def State.putImage (s : State) : State :=
  match s.seg.image with
  | none => s
  | some cells =>
    let s := { s with seg := { s.seg with image := none }, beam := { s.beam with plane := [] } }
    (cells.zipIdx).foldl (fun s c =>
      { s with beam := { s.beam with plane := tset (fun _ => 0#4) s.beam.plane c.2 c.1 } }) s

/-! ### Segment frames and slots (R157 to R160, R163) -/

/-- F of the segment frame that starts: 0 after EN was set, else one on, by 15 (R160, R163). -/
def State.nextF (s : State) : Nat := if s.seg.restart then 0 else (s.seg.frame + 1) % 15

/-- The segment sweep of a self-test spans one whole segment frame, whose slots check every output; its detail is the outputs that
stand OPEN or SHORT (R261). -/
def State.segSweep (s : State) : State :=
  match s.fw.test with
  | none => s
  | some x =>
    if x.id ≠ 8 then s
    else if x.count = 0 then s.testCounts 1
    else s.endTest 8 s.openFail (BitVec.ofNat 32 ((List.range 104).countP (fun m =>
      s.bit (aOf.segOpen 0 + m / 32 * 4) (m % 32) || s.bit (aOf.segShort 0 + m / 32 * 4) (m % 32))))

/-- A segment frame starts. -/
def State.segStart (s : State) : State :=
  let f := s.nextF
  let ts := s.stampOf false
  let s := (s.drawn).wr aOf.segFrame ts
  let s := { s with seg := { s.seg with
    frame := f, restart := false, slot := 0, latched := s.regs.filter (fun e => decide (0x40180000 ≤ e.1) && decide (e.1 < 0x40190000)) } }
  let s := (((s.setBit aOf.segStat 0 true).setBit aOf.segStat 1 false).setF aOf.segStat 4 4 f)
  let s := (s.pour.flight.map (·.key)).foldl (fun s k => s.segPour ts k) s
  s.putImage.segSweep

/-- The FRC level of a cell code in a colour group (R163). -/
def State.frcLevel (s : State) (seg : Nat) (c : BitVec 4) : Nat :=
  let g := s.segF (aOf.segGrp (seg / 16)) (seg % 16 * 2) 2
  if c.toNat < 8 then s.segF (aOf.segTf0 g) (c.toNat * 4) 4 else s.segF (aOf.segTf1 g) ((c.toNat - 8) * 4) 4

/-- A cell is on in the segment frame in progress. -/
def State.cellOn (s : State) (seg com : Nat) : Bool :=
  let l := s.frcLevel seg (s.cell seg com)
  let phi := (s.seg.frame + seg + 4 * com) % 15
  decide (phi * l / 15 < (phi + 1) * l / 15)

/-- Levels of Table 07-1 in twelfths of VLCD: COM selected, COM unselected, SEG on, SEG off. -/
def levelsOf (isStatic quarter positive : Bool) : Nat × Nat × Nat × Nat :=
  match isStatic, quarter, positive with
  | true, _, true => (0, 0, 12, 0)
  | true, _, false => (12, 0, 0, 12)
  | false, false, true => (12, 4, 0, 8)
  | false, false, false => (0, 8, 12, 4)
  | false, true, true => (12, 3, 0, 6)
  | false, true, false => (0, 9, 12, 6)

/-- The levels of outputs 0 to 103 in slot `k`. -/
def State.slotLevels (s : State) (k : Nat) : List Nat :=
  let n := s.segN
  let sel := k % n
  let l := levelsOf (n == 1) (s.segF aOf.segCtrl 3 1 == 1) (decide (k < n))
  (List.range 8).map (fun m => if n ≤ m then 0 else if m = sel then l.1 else l.2.1) ++
  (List.range 96).map (fun g => if s.cellOn g sel then l.2.2.1 else l.2.2.2)

/-! ### Output read-back (R165, R166) -/

/-- No findings yet. -/
def OutHist.none_ (_ : Nat) : OutHist := ⟨0, 0, 0, 0⟩

/-- DEB. -/
def State.deb (s : State) : Nat := max (s.f aOf.segRbtol 16 4) 1

/-- The bit of output `m` in SEG_OPEN or SEG_SHORT after a check: set, cleared, or kept, with its event. -/
def State.outBit (s : State) (base m seen ok event : Nat) : State :=
  let a := base + m / 32 * 4
  if s.deb ≤ seen then
    if s.bit a (m % 32) then s else (s.setBit a (m % 32) true).raise event
  else if s.deb ≤ ok then s.setBit a (m % 32) false
  else s

/-- One checked output. -/
def State.checkOut (s : State) (c : OutCheck) : State :=
  let h := tget OutHist.none_ s.seg.hist c.output
  let h : OutHist :=
    { open_ := if c.early then min (h.open_ + 1) 15 else 0, okOpen := if c.early then 0 else min (h.okOpen + 1) 15
      short := if c.late then min (h.short + 1) 15 else 0, okShort := if c.late then 0 else min (h.okShort + 1) 15 }
  let s := { s with seg := { s.seg with hist := tset OutHist.none_ s.seg.hist c.output h } }
  (s.outBit (aOf.segOpen 0) c.output h.open_ h.okOpen 768).outBit (aOf.segShort 0) c.output h.short h.okShort 769

/-- Some SHORT bit is set in `t` and clear in `s`. -/
def State.newShort (s t : State) : Bool :=
  (List.range 4).any (fun i => t.rd (aOf.segShort i) &&& ~~~(s.rd (aOf.segShort i)) != 0#32)

/-- A slot begins: levels, and the checks of outputs whose level moved by half of VLCD or more. -/
def State.segSlotOp (s : State) (checks : List OutCheck) : State :=
  let old := s.seg.levels
  let new := s.slotLevels s.seg.slot
  let moved (m : Nat) : Bool :=
    let a := old.getD m 0
    let b := new.getD m 0
    decide (6 ≤ (if a ≤ b then b - a else a - b))
  let s := ({ s with seg := { s.seg with slot := s.seg.slot + 1, levels := new } }).emit (.levels new)
  if s.bit aOf.segCtrl 6 || s.testing 8 then
    let t := ((List.range 104).filter moved).foldl (fun s m =>
      s.checkOut ((checks.find? (fun c => c.output == m)).getD ⟨m, false, false⟩)) s
    t.when (s.bit aOf.segCtrl 7 && s.newShort t) (fun t =>
      ({ t.segBlank with seg := { t.segBlank.seg with fstop := true } }).raise 771)
  else s

/-! ### Commands -/

/-- SEGMENT_FRAME_START (R157, R160, R164, R70): once the slots of the frame before have passed; a port whose EN
was cleared blanks instead. -/
def execSegmentFrameStart (s : State) : Res :=
  let s := s.begin
  let whole := !s.segRun || decide (2 * s.segN ≤ s.seg.slot)
  if !s.segOn || !whole then done s
  else if !s.segEn then done (s.when s.segRun (·.segBlank))
  else done (s.when (s.vlcdOk && !s.seg.fstop) (·.segStart))

/-- SEGMENT_SLOT (R158, R163, R165, R166). -/
def execSegmentSlot (checks : List OutCheck) (s : State) : Res :=
  let s := s.begin
  done (s.when (s.segOn && s.segRun && decide (s.seg.slot < 2 * s.segN)) (·.segSlotOp checks))

/-- SEG_CTRL EN goes to 1: F restarts at 0, in a frame in progress from the next segment frame start (R160). -/
def State.segEnable (s : State) : State :=
  if s.segEn then s
  else
    let s := s.setBit aOf.segCtrl 0 true
    let s := { s with seg := { s.seg with restart := true, fstop := false } }
    if s.segRun then s else ({ s with seg := { s.seg with frame := 0 } }).setF aOf.segStat 4 4 0

/-- SEG_CTRL EN goes to 0: RUN stays 1 until the frame has completed (SEGMENT_FRAME_START). -/
def State.segDisable (s : State) : State := s.setBit aOf.segCtrl 0 false

/-- SEGMENT_ENABLE (R160). -/
def execSegmentEnable (s : State) : Res := done (s.begin.access aOf.segCtrl (·.segEnable))

/-- SEGMENT_DISABLE (R160). -/
def execSegmentDisable (s : State) : Res := done (s.begin.access aOf.segCtrl (·.segDisable))

/-- VLCD_FAULT (R162). -/
def execVlcdFault (s : State) : Res :=
  let s := s.begin
  done (s.when (s.segOn && s.vlcdOk) (fun s =>
    let s := (s.setBit aOf.segStat 2 false).raise 770
    ({ s with seg := { s.seg with failed := true } }).segBlank))

/-- VLCD_OK_SET (R162). -/
def execVlcdOkSet (s : State) : Res :=
  let s := s.begin
  done (s.when (s.segOn && !s.vlcdOk) (fun s =>
    ({ s with seg := { s.seg with failed := false } }).setBit aOf.segStat 2 true))

/-- SEG_CTRL VSRC. -/
def State.vsrcOp (s : State) (v : Nat) : State :=
  let s := (s.setF aOf.segCtrl 4 2 v).setBit aOf.segStat 2 false
  ({ s with seg := { s.seg with failed := false } }).when s.segRun (·.segBlank)

/-- VSRC_WRITE (R161, R162). -/
def execVsrcWrite (v : BitVec 2) (s : State) : Res := done (s.begin.access aOf.segCtrl (·.vsrcOp v.toNat))

end Sys2Proof.Machine
end

