-- ==== Sys2Proof/Machine/Status.lean ====
section
/-! DEFINITION. The status words firmware composes (R242, Table 11-3) and the STATUS message. -/

namespace Sys2Proof.Machine

open Sys2Proof

/-- EVT_SUM: the groups with a source latched and enabled. -/
def State.evtSumView (s : State) : Word :=
  BitVec.ofNat 32 ((List.range 16).foldl (fun a g =>
    let on (i : Nat) : Bool := (s.rd (aOf.evtStat i) &&& s.rd (aOf.evtEn i)) != 0#32
    a + b2n (on (2 * g) || on (2 * g + 1)) * 2 ^ g) 0)

/-- The instant from which stream silence counts (R246). -/
def State.silenceOrigin (s : State) : Nat := max s.fw.lastPourNs s.fw.silenceFrom

/-- WARN: no pour accepted for more than half of STREAM_TMO. -/
def State.warn (s : State) : Bool :=
  decide (s.silenceOrigin * 2 + s.fw.items.streamTmo * 1000000 < s.extNs * 2)

/-- The code of a lamp state. -/
def Lamp.code : Lamp → Nat
  | .off => 0 | .dark => 1 | .lit => 2 | .ingot => 3 | .service => 4

/-- S0. -/
def State.statusS0 (s : State) : Word :=
  BitVec.ofNat 32 (s.fw.lamp.code + s.device * 2 ^ 4 + s.op * 2 ^ 8 + b2n s.fw.fade.isSome * 2 ^ 10 +
    b2n (s.servoState == 3) * 2 ^ 11 + s.f aOf.tmpStat 3 1 * 2 ^ 12 + s.f aOf.tmpStat 5 1 * 2 ^ 13 +
    s.f aOf.tmpStat 4 1 * 2 ^ 14 + b2n s.warn * 2 ^ 15 + s.f aOf.sysRole 0 1 * 2 ^ 16 + s.f aOf.sysRole 4 1 * 2 ^ 17)

/-- S3: the credits of the host. -/
def State.hostCredits (s : State) : Word :=
  let r := s.reserve
  if s.domOn pdPipe then BitVec.ofNat 32 ((s.freePlaces - r.1) * 65536 + (min s.freeSlots 8192 - r.2)) else 0#32

/-- EXP of the stream a port feeds, 0 where it is disabled. -/
def State.expWord (s : State) (p : Port) : Word :=
  if s.domOn pdPipe && s.bit aOf.pourCtrl p.idx then (s.exp (s.streamOf p)).getD 0#32 else 0#32

/-- S0 to S8, with the results lost since the last STATUS and the number of results in the message. -/
def State.statusWords (s : State) (lost count : Nat) : List Word :=
  [s.statusS0, s.time.lastK, s.rd aOf.timeLast, s.hostCredits, s.expWord .p0, s.expWord .p1,
   BitVec.ofNat 32 ((s.evtSumView).toNat + lost * 2 ^ 16 + count * 2 ^ 28), s.rd aOf.tmpTj,
   BitVec.ofNat 32 (s.f aOf.tmpBurst 0 16 + satTo 65535 ((s.extNs - s.fw.lastPourNs) / 1000000) * 2 ^ 16)]

/-- A result record in POUR_RES0 and POUR_RES1 layout. -/
def PourResult.words (r : PourResult) : List Word :=
  [BitVec.ofNat 32 (r.id.toNat * 65536 + r.status * 256 + 128 + b2n r.inj * 4 + r.port.idx * 2 + b2n r.late), r.frame]

/-- The routes of configuration item 0x0002. -/
def State.statusRoutes (s : State) : List Route :=
  (if s.fw.items.routes % 2 = 1 then [.spi] else []) ++ (if s.fw.items.routes / 2 % 2 = 1 then [.port .p0] else []) ++
  (if s.fw.items.routes / 4 % 2 = 1 then [.port .p1] else [])

/-- One STATUS message on a route: over SPI it is dropped and counted where HMB out has no room (event 963); over
a port it goes to the destination of item 0x0002 in the control stream, untagged (DESIGN CHOICE, assumption 101), and where the link is down it
is discarded and counted. -/
def State.statusOn (s : State) (h : Word) (ws : List Word) (r : Route) : State :=
  match r with
  | .spi =>
    if (s.fifo 1).free < ws.length + 1 then ({ s with fw := { s.fw with statusDropped := s.fw.statusDropped + 1 } }).raise 963
    else (s.hmbPut (h :: ws)).emit (.statusMsg r none h ws)
  | .port p =>
    if (s.hostPort p).up && !(s.hostPort p).inReset then s.emit (.statusMsg r (some (s.ethHead s.fw.items.dstMac none)) h ws)
    else { s with fw := { s.fw with repliesLost := s.fw.repliesLost + 1 } }

/-- STATUS messages leave until every result of the list has gone, three in each. -/
def State.sendResults (s : State) (lost : Nat) : Nat → List PourResult → State
  | 0, _ => s
  | n + 1, rs =>
    let now := rs.take 3
    let ws := s.statusWords lost now.length ++ now.flatMap (·.words)
    let h := hdrWord 0x03#8 (BitVec.ofNat 8 s.fw.statusSeq) (s.gen 1) false false (1 + ws.length)
    let s := s.statusRoutes.foldl (fun s r => s.statusOn h ws r) s
    let s := { s with fw := { s.fw with statusSeq := (s.fw.statusSeq + 1) % 256 } }
    if (rs.drop 3).isEmpty then s else State.sendResults s 0 n (rs.drop 3)

/-- Firmware reads the result FIFO and LOST, and sends STATUS with the host's results on the routes of item 0x0002;
results of injected pours are firmware's alone (R80). -/
def State.sendStatus (s : State) : State :=
  if s.statusRoutes.isEmpty then
    s.when (s.domOn pdPipe) (fun s => { s with pour := { s.pour with results := s.pour.results.dropWhile (·.inj) } })
  else
    let on := s.domOn pdPipe
    let lost := if on then s.f aOf.pourResstat 16 12 else 0
    let rs := if on then s.pour.results.filter (fun r => !r.inj) else []
    let s := s.when on (fun s => ({ s with pour := { s.pour with results := [] } }).setF aOf.pourResstat 16 12 0)
    s.sendResults lost (rs.length + 1) rs

/-- STATUS (R242): every 1 ms. -/
def execStatusMsg (s : State) : Res :=
  let s := s.begin
  done (s.when s.fwRuns (·.sendStatus))

end Sys2Proof.Machine
end

