-- ==== Sys2Proof/Machine/Lamp.lean ====
section
/-! DEFINITION. The lamp manager (R244 to R248, R147, R300, R307): layer 15, the Ingot, cuts and fades, the
departure from OFF and the entry into it, the defect merge, and the commands that carry them on. -/

namespace Sys2Proof.Machine

open Sys2Proof

/-! ### The Ingot (R248, Table 11-5) -/

/-- The Ingot image in force. -/
def State.ingot (s : State) : Option (List Byte) := s.recLoad 6

/-- Word `i` of an image header. -/
def ingotWord (bs : List Byte) (i : Nat) : Word := beWordAt bs (4 * i)

/-- FIXOFS. -/
def ingotFixofs (bs : List Byte) : Bool := bitOf (ingotWord bs 0) 8

/-- SEG. -/
def ingotSeg (bs : List Byte) : Bool := bitOf (ingotWord bs 0) 9

/-- WIDTH. -/
def ingotW (bs : List Byte) : Nat := fld (ingotWord bs 2) 16 16

/-- HEIGHT. -/
def ingotH (bs : List Byte) : Nat := fld (ingotWord bs 2) 0 16

/-- Where the texels begin. -/
def ingotTexels (bs : List Byte) : Nat := 32 + (if ingotSeg bs then 768 else 0)

/-- The layer a record word names. -/
def layerOfWord (w0 src : Word) : Layer :=
  { type := fld w0 28 4, blend := fld w0 24 4, opacity := fld w0 16 8, planes := fld w0 12 4, offsetEn := bitOf w0 11
    rsvd := fld w0 0 11, src := src }

/-- Offset targets of table 0x04 word 0 lie in their ranges (R40). -/
def targetWordOk (w : Word) : Bool :=
  decide ((sx 16 (fld w 16 16)).natAbs ≤ 768) && decide ((sx 16 (fld w 0 16)).natAbs ≤ 3840)

/-- The image is well-formed (R249). -/
def ingotOk (bs : List Byte) : Bool :=
  let w := ingotWord bs
  let wd := ingotW bs
  let ht := ingotH bs
  fld (w 0) 0 8 == 1 && fld (w 0) 10 22 == 0 && (w 1).toNat == bs.length && fld (w 4) 0 24 == 0 && w 7 == 0#32 &&
  decide (1 ≤ wd) && decide (wd ≤ 2048) && decide (1 ≤ ht) && decide (ht ≤ 512) && decide (wd * ht ≤ 32768) &&
  decide (4 ≤ fld (w 4) 24 8) && decide (fld (w 4) 24 8 ≤ 32) &&
  (layerOfWord (w 6) 0#32).type == 1 && (layerOfWord (w 6) 0#32).ok &&
  (!ingotFixofs bs || targetWordOk (w 5)) && bs.length == ingotTexels bs + 2 * wd * ht

/-- BASE of the lamp manager's pattern area (R244). -/
def Part.ingotBase : Part → Nat
  | .uh6440 => 1008 | .uh6432 => 368 | .uh6416 => 496

/-- A pour in pieces the reserve of 64 slots can hold (R72): a long PATTERN_WRITE or TABLE_WRITE is cut at 6,144 bytes. -/
def cutLoad : Nat → Load → List Load
  | 0, l => [l]
  | n + 1, l =>
    if (l.op = .tableWrite ∨ l.op = .patternWrite) ∧ 6144 < l.bytes.length ∧ l.w3.toNat = l.bytes.length then
      { l with w3 := 6144#32, bytes := l.bytes.take 6144 } ::
        cutLoad n { l with w2 := l.w2 + 6144#32, w3 := l.w3 - 6144#32, bytes := l.bytes.drop 6144 }
    else [l]

/-- The pours that load the Ingot pattern (R244, R248): its texels into the lamp manager's area, and slot 7 of the table set. -/
def State.ingotLoads (s : State) : List Load :=
  match s.ingot with
  | none => []
  | some bs =>
    let base := s.part.ingotBase
    let texels := bs.drop (ingotTexels bs)
    let d := [ingotWord bs 2, ingotWord bs 3, setFld (ingotWord bs 4) 0 24 base, 0#32].flatMap beBytes
    cutLoad (texels.length / 6144) { id := 0, op := .patternWrite, target := 0, w2 := BitVec.ofNat 32 (base * 4096)
                                     w3 := BitVec.ofNat 32 texels.length, switch := false, bytes := texels } ++
    [{ id := 0, op := .tableWrite, target := 0x02, w2 := 112#32, w3 := 16#32, switch := false, bytes := d }]

/-- Layer 15 is PATTERN, or a cut or a fade is about to make it so. -/
def State.ingotHeld (s : State) : Bool :=
  (s.layer s.beam.setB 15).type == 1 || s.fw.fade.isSome || s.fw.cuts.any (fun c => c.1 == .ingot)

/-- A stored image that waits is loaded once layer 15 is not PATTERN (R248). -/
def State.loadIngot (s : State) : State :=
  if s.fwRuns && s.fw.ingotStale && s.domOn pdPipe && s.fw.lamp != .off && !s.ingotHeld then
    (s.ingotLoads.foldl State.enqueue { s with fw := { s.fw with ingotStale := false } }).feed
  else s

/-! ### Layer 15 (R244) -/

/-- The record of layer 15 for a lamp state, at an opacity. -/
def State.layer15 (s : State) (t : Lamp) (a : Nat) : Word × Word :=
  let black : Word × Word := (BitVec.ofNat 32 (4 * 2 ^ 28 + a * 2 ^ 16 + 15 * 2 ^ 12), 0#32)
  match t with
  | .dark => black
  | .ingot =>
    match s.ingot with
    | none => black
    | some bs =>
      let l := layerOfWord (ingotWord bs 6) 0#32
      (BitVec.ofNat 32 (2 ^ 28 + l.blend * 2 ^ 24 + a * 2 ^ 16 + l.planes * 2 ^ 12 + b2n l.offsetEn * 2 ^ 11), 7#32)
  | _ => (0#32, 0#32)

/-- The offset targets an Ingot with FIXOFS brings. -/
def State.ingotTargets (s : State) (t : Lamp) : Option Word :=
  if t = .ingot then
    match s.ingot with
    | some bs => if ingotFixofs bs then some (ingotWord bs 5) else none
    | none => none
  else none

/-- A LAYER_SET of one layer, committed with SWITCH. -/
def State.injectLayer (s : State) (k : Nat) (r : Word × Word) : State :=
  s.injectPour .layerSet 0 (BitVec.ofNat 32 (k * 65536)) (BitVec.ofNat 32 65536) true (beBytes r.1 ++ beBytes r.2)

/-- Table 0x04 word 0, without SWITCH. -/
def State.injectTargets (s : State) (t : Lamp) : State :=
  match s.ingotTargets t with
  | some w => s.injectPour .tableWrite 0x04 0#32 4#32 false (beBytes w)
  | none => s

/-! ### Entering a lamp state -/

/-- The segment port in a lamp state: blank in DARK and in INGOT without an image. -/
def State.segFor (s : State) (t : Lamp) : State :=
  if !s.segOn then s
  else match t with
    | .off | .dark => s.when s.segEn (·.segDisable)
    | .ingot =>
      match s.ingot with
      | none => s.when s.segEn (·.segDisable)
      | some bs =>
        let s := s.segEnable
        if ingotSeg bs then
          { s with seg := { s.seg with image := some (((bs.drop 32).take 768).map (fun b => (b.setWidth 4 : BitVec 4))) } }
        else s
    | .lit | .service => s.segEnable

/-- The lamp enters a state at this edge (R245): event 962, the segment port, the silence origin of LIT (R246);
requests for it wait for the launch of this frame. -/
def State.enterLamp (s : State) (t : Lamp) : State :=
  let s := (s.when (s.fw.lamp != t) (fun s => ({ s with fw := { s.fw with lamp := t } }).raise 962)).segFor t
  let s := s.when (t == .lit) (fun s => { s with fw := { s.fw with silenceFrom := s.extNs } })
  let s := s.when (t == .lit && s.shed) (·.startFade true .ingot s.extNs)
  let s := s.when (t == .dark && s.fw.entering == 1) (fun s =>
    ({ s with fw := { s.fw with entering := 2 } }).rewait (fun r => if r.wait = ReplyWait.lampEntry Lamp.off then { r with frameWord := some s.frameNo } else r))
  let s := s.loadIngot
  s.rewait (fun r => if r.wait = .lampEntry t then { r with wait := .launch s.frameNo, frameWord := some s.frameNo } else r)

/-- A cut to a lamp state: layer 15 by an injected pour with SWITCH; a fade in progress ends. -/
def State.cutTo (s : State) (t : Lamp) : State :=
  let s := ({ s with fw := { s.fw with fade := none } }).injectTargets t
  let s := { s with fw := { s.fw with cuts := s.fw.cuts ++ [(t, s.nextInject)] } }
  s.injectLayer 15 (s.layer15 t 255)

/-! ### Fades (R247) -/

/-- Every mask is cleared. -/
def State.clearMasks (s : State) : State :=
  s.beam.masks.foldl (fun s e => s.setMask e.1 { s.mask e.1 with valid := false }) s

/-- A step cannot commit: the inactive set is not free, the reserve is used up, or a pour of the store runner or a FENCE is
ahead. -/
def State.stepBlocked (s : State) : Bool :=
  !s.inactiveFree || !s.fw.loads.isEmpty || s.reserve.1 < 2 || s.reserve.2 < 2 || s.pour.flight.any (fun p => p.holds && (p.op.cls == .store || p.op.cls == .table || p.op == .fence))

/-- One step of a fade at the edge `te`: a LAYER_SET of layer 15 with SWITCH, after the offset targets of an Ingot that brings
them. -/
def State.fadeStep (s : State) (te : Word) : State :=
  match s.fw.fade with
  | none => s
  | some f =>
    if s.stepBlocked then s
    else
      let now := s.extNs - (s.time.ns - te).toNat
      let step := (roundEven (255 * (now - f.t0) : Nat) 200000000).toNat
      let a := if f.up then min 255 (f.a0 + step) else f.a0 - step
      let b := s.beam.setB
      let rec15 := if f.up then s.layer15 f.target a
        else if a = 0 then (0#32, 0#32)
        else (setFld (s.setWord b (offLayers + 120)) 16 8 a, s.setWord b (offLayers + 124))
      let first := decide (s.fw.lamp ≠ f.target)
      let s := match s.ingotTargets f.target with
        | some w => s.when first (·.injectStep .tableWrite 0x04 0#32 4#32 false (beBytes w))
        | none => s
      let s := s.injectStep .layerSet 0 (BitVec.ofNat 32 (15 * 65536)) (BitVec.ofNat 32 65536) true
        (beBytes rec15.1 ++ beBytes rec15.2)
      let s := s.when first (·.enterLamp f.target)
      let s := s.rewait (fun r => if r.wait = .fadeStep then { r with wait := .launch s.frameNo, frameWord := some s.frameNo } else r)
      if a = (if f.up then 255 else 0) ∧ s.fw.fade = some f then
        let s := ({ s with fw := { s.fw with fade := none } }).loadIngot
        s.when (f.up && f.target == .ingot) (fun s => s.clearMasks.raise 961)
      else s

/-! ### Leaving and entering OFF -/

/-- The domains whose votes of the lamp manager fall with the light (R244, R245); PD_CRU keeps its vote. -/
def lampDomains : List Nat := [pdPipe, 6, 7, 8, 9, pdSeg]

/-- The lane domains of the slices the configuration record enables (R300). -/
def State.configDomains (s : State) : List Nat :=
  let g (a : Nat) : Word := match s.fw.items.regs.reverse.find? (fun r => r.1 == a) with | some r => r.2 | none => s.rd a
  [6, 7, 8, 9].filter (fun d => (List.range 64).any (fun i =>
    let k := sliceOf g i
    k.en && k.lanes.any (fun n => decide (n < s.part.lanes) && pdLane n == d)))

/-- The lamp manager's vote (bit 3) on a domain. -/
def State.lampVote (s : State) (d : Nat) (on : Bool) : State := s.mark d 3 on

/-- The lanes that enabled slices name and that are in a domain that is ON are enabled (R300 step 6). -/
def State.enableLanes (s : State) : State :=
  (List.range s.part.lanes).foldl (fun s n =>
    s.when (s.laneOn n && !s.bit (aOf.laneCtrl n) 2 && (List.range 64).any (fun i =>
      let d := sliceOf s.rd i
      d.en && d.lanes.contains n)) (·.laneEnOp n true)) s

/-- The pour streams of configuration item 0x0007. -/
def State.setStreams (s : State) (on : Bool) : State :=
  let i := s.fw.items
  let hi := BitVec.ofNat 32 (i.pourSid.toNat / 2 ^ 32)
  let lo := BitVec.ofNat 32 i.pourSid.toNat
  [Port.p0, Port.p1].foldl (fun s p =>
    if !s.part.hasPort p then s
    else
      let s := (s.wr (aOf.pourSidh p.idx) hi).wr (aOf.pourSidl p.idx) lo
      let want := on && i.pourPorts / 2 ^ p.idx % 2 == 1
      if want then s.when (!s.bit aOf.pourCtrl p.idx) (·.streamOn p)
      else s.setBit aOf.pourCtrl p.idx false) s

/-- The tables of the configuration record, the Ingot pattern, and after them layer 15, whose pour carries SWITCH (R245, R248,
R300 step 4). -/
def State.lightLoads (s : State) (t : Lamp) (tables : Bool) : List Load :=
  let r := s.layer15 t 255
  (if tables then s.fw.items.tables.flatMap (fun l => cutLoad (l.bytes.length / 6144) l) else []) ++ s.ingotLoads ++
  (match s.ingotTargets t with
   | some w => [{ id := 0, op := .tableWrite, target := 0x04, w2 := 0#32, w3 := 4#32, switch := false, bytes := beBytes w }]
   | none => []) ++
  [{ id := 0, op := .layerSet, target := 0, w2 := BitVec.ofNat 32 (15 * 65536), w3 := BitVec.ofNat 32 65536, switch := true, bytes := beBytes r.1 ++ beBytes r.2 }]

/-- Free-running edges at the configured period: frame 0 falls 100 µs after EN (R302). Edges that run go on. -/
def State.startEdges (s : State) : State :=
  if s.bit aOf.timeFctrl 0 then s
  else
    let s := (s.wr aOf.timeEpoch (s.time.ns + 100000#32)).wr aOf.timeFstart 0#32
    (s.setF aOf.timePeriod 0 25 s.fw.items.framePeriod).edgesOn

/-- PD_PIPE is ON for a departure from OFF (R239, R245, R300): the wear copy and the tables where the
Crucible lost them, Temper, Ingot pattern, layer 15, frame period and edges, streams, lanes and link. -/
def State.lightUp (s : State) (t : Lamp) : State :=
  let lost := !s.bit aOf.pwrCtrl 1 || s.fw.tablesDue
  let s := s.when (!s.bit aOf.pwrCtrl 1) (fun s => s.loadWear.setBit aOf.pwrCtrl 1 true)
  let s := (s.setBit aOf.tmpCtrl 0 true).setBit aOf.tmpCtrl 1 true
  let s := { s with fw := { s.fw with loads := [], tablesDue := lost, ingotStale := false } }
  let s := (s.lightLoads t lost).foldl State.enqueue s
  let s := s.feed
  let s := (s.periodOp (BitVec.ofNat 32 s.fw.items.framePeriod)).startEdges
  let s := s.setStreams true
  let s := s.fw.darkSlices.foldl (fun s i => s.when (decide (i < 64)) (·.setBit (aOf.lnkSlice0 i) 31 true)) { s with fw := { s.fw with darkSlices := [] } }
  let s := s.sliceDomains.foldl (fun s d => s.lampVote d true) s
  let s := s.settlePower.enableLanes
  s.linkEnOp true

/-- The lamp leaves OFF for a state: firmware votes the domains; with PD_PIPE ON already it goes on at once. -/
def State.depart (s : State) (t : Lamp) : State :=
  let s := { s with fw := { s.fw with leaving := some t } }
  let s := s.setF aOf.pwrCtrl 2 2 s.fw.items.litOp
  let s := s.when (!s.domOn pdPipe) (·.setOpTgt s.fw.items.litOp)
  let s := ([pdCru, pdPipe, pdSeg] ++ s.configDomains).foldl (fun s d => s.lampVote d true) s
  let s := s.settlePower
  s.when (s.domOn pdPipe) (·.lightUp t)

/-- A slice is LIT. -/
def State.anyLit (s : State) : Bool := (List.range 64).any (fun i => s.sliceState i == slLit)

/-- The departure's entry: at the first edge at which a slice is LIT, its layer 15 in force. -/
def State.arrive (s : State) : State :=
  match s.fw.leaving with
  | none => s
  | some t =>
    s.when (s.anyLit && s.fw.loads.isEmpty && !s.pour.flight.any (fun p => p.key.injected)) (fun s =>
      ({ s with fw := { s.fw with leaving := none, tablesDue := false } }).enterLamp t)

/-- Link, slices, segment port and pour streams are disabled and the pours flushed (R245); the slices it disables are enabled
again when the lamp leaves OFF. -/
def State.goDark (s : State) : State :=
  let s := { s with fw := { s.fw with loads := [] } }
  let s := s.when (s.domOn pdPipe) (fun s =>
    let on := (List.range 64).filter (fun i => s.bit (aOf.lnkSlice0 i) 31)
    let s := on.foldl (fun s i => s.setBit (aOf.lnkSlice0 i) 31 false) { s with fw := { s.fw with darkSlices := on } }
    (((s.linkEnOp false).setBit aOf.pourCtrl 0 false).setBit aOf.pourCtrl 1 false).flushOp)
  s.segFor .off

/-- The lamp is OFF (R239, R244, R307): the saves start, the votes fall, requests that waited for light are
answered DENIED and the LAMP_STATE OFF is answered OK. -/
def State.arriveOff (s : State) : State :=
  let s := { s with fw := { s.fw with entering := 0, restart := 0, leaving := none, fade := none, cuts := [], entered := none } }
  let s := s.when (s.fw.lamp != .off) (fun s => ({ s with fw := { s.fw with lamp := .off } }).raise 962)
  let s := s.when (!s.nvRefuses) (fun s => s.saveHours.when (s.domOn pdCru) (·.wearGo))
  let s := (lampDomains.foldl (fun s d => s.lampVote d false) s).settlePower
  let light (r : Request) : Bool :=
    match r.wait with
    | .pour _ | .maskLine _ | .nextLine | .fadeStep | .nextEdge => true
    | .launch _ => true
    | .lampEntry t => t != .off
    | _ => false
  let tested := s.fw.requests.any (fun r => light r && r.opcode == 0x90#8)
  let s := s.answerWhere light stDenied (fun _ _ => [])
  let s := s.when tested (fun s => { s with fw := { s.fw with test := none } })
  s.answerWhere (fun r => decide (r.wait = .lampEntry .off)) stOk (fun s r => [0#32, r.frameWord.getD s.frameNo])

/-- The flush of a pipeline restart has ended: the votes fall, so that PD_PIPE goes off; where other clients hold it
ON they return and the lamp stays halted (R29). -/
def State.cyclePipe (s : State) : State :=
  let t := (lampDomains.foldl (fun s d => s.lampVote d false) s).settlePower
  if lampDomains.any (fun d => t.votes d != 0) then
    ({ (([pdPipe, pdSeg] ++ s.sliceDomains).foldl (fun s d => s.lampVote d true) t).settlePower with
        fw := { t.fw with restart := 0 } })
  else { t with fw := { t.fw with restart := 2 } }

/-- PD_PIPE has gone off for a restart: firmware votes for it again. -/
def State.voteRestart (s : State) : State :=
  s.when (s.fwRuns && s.fw.restart == 2 && s.dstate pdPipe == 0) (fun s =>
    let s := { s with fw := { s.fw with restart := 0 } }
    (([pdPipe, pdSeg] ++ s.configDomains).foldl (fun s d => s.lampVote d true) s).settlePower)

/-- A fade in progress, and the requests that wait for one of its steps. -/
def State.fading (s : State) : Bool := s.fw.fade.isSome

/-! ### Defect merge (R147) -/

/-- An entry of a defect list: its two words. -/
abbrev DefectWords := Word × Word

/-- Row-major position of an entry. -/
def defectKey (e : DefectWords) : Nat := fld e.1 12 10 * 4096 + fld e.1 0 12

/-- Insert an entry in row-major order, after those at the same place. -/
def insertDefect (e : DefectWords) : List DefectWords → List DefectWords
  | [] => [e]
  | d :: r => if defectKey e < defectKey d then e :: d :: r else d :: insertDefect e r

/-- Entry `j` of defect list `l`. -/
def State.defectWords (s : State) (l j : Nat) : DefectWords :=
  let a := s.part.defectBase + l * 131072 + j * 8
  (s.cruWord a, s.cruWord (a + 4))

/-- Firmware merges the staged entries of a slice into the list not in use, makes it the list in use and lights the
slice (R147). -/
def State.mergeDefects (s : State) : State :=
  let i := s.f aOf.lnkCal 24 6
  let d := s.sd i
  let l := 1 - s.f aOf.pipeCtrl 6 1
  let old := (List.range (min (s.f (aOf.pipeDefcnt l) 0 15) 16384)).map (s.defectWords l)
  let inSlice (e : DefectWords) : Bool := decide (d.x0 ≤ fld e.1 0 12) && decide (fld e.1 0 12 < d.x0 + d.w) &&
    decide (d.y0 ≤ fld e.1 12 10) && decide (fld e.1 12 10 < d.y0 + d.h)
  let base := s.f aOf.lnkCal 16 7 * 1024
  let staged := (List.range (min (s.tunWord base).toNat (s.f aOf.lnkCal 0 15))).map (fun j => (s.tunWord (base + 2 + 2 * j), s.tunWord (base + 3 + 2 * j)))
  let list := staged.foldl (fun m e => insertDefect e m) (old.filter (fun e => !inSlice e))
  let s := s.cruPut (s.part.defectBase + l * 131072) (list.flatMap (fun e => leBytes e.1 ++ leBytes e.2))
  let s := ((s.setF (aOf.pipeDefcnt l) 0 15 list.length).setF aOf.pipeCtrl 6 1 l).setBit aOf.pipeCtrl 5 true
  s.when (s.sliceState i == slReady) (·.setBit (aOf.lnkSlice2 i) 31 true)

/-! ### Commands -/

/-- LNK_CAL_DONE_CLEAR (R147): firmware that runs has merged the slice's defects and set its LIGHT before. -/
def execLnkCalDoneClear (s : State) : Res :=
  done (s.begin.access aOf.lnkCal (fun s =>
    (s.when (s.fwRuns && s.domOn pdCru && s.bit aOf.lnkCal 31) (·.mergeDefects)).calDoneOp))

/-- FLUSH_END (R83): the flush of an entry into OFF ends it, its results forwarded first. -/
def execFlushEnd (s : State) : Res :=
  let s := s.begin
  done (s.when (s.pourOn && s.pour.flushing && s.pour.flight.isEmpty) (fun s =>
    let s := (({ s with pour := { s.pour with flushing := false } }).setBit aOf.pourCtrl 8 false).raise 131
    let s := s.when (s.fwRuns && s.fw.restart == 1) (fun s => s.sendStatus.cyclePipe)
    s.when (s.fwRuns && s.fw.entering == 3) (fun s => s.sendStatus.arriveOff) |>.feed))

/-- STREAM_LOSS (R246): the lamp has been silent for STREAM_TMO. -/
def execStreamLoss (s : State) : Res :=
  let s := s.begin
  let t0 := s.silenceOrigin + s.fw.items.streamTmo * 1000000
  let fadingUp := match s.fw.fade with | some f => f.up | none => false
  done (s.when (s.fwRuns && s.fw.lamp == .lit && s.fw.entering == 0 && !fadingUp && decide (t0 ≤ s.extNs)) (fun s =>
    (s.raise 960).startFade true .ingot t0))

end Sys2Proof.Machine
end

