-- ==== Sys2Proof/Machine/Cpu.lean ====
section
/-! DEFINITION. Mailboxes, doorbells, the SPI status byte, the event fabric, roles and watchdogs (R210, R217 to
R233), and the commands of that family. -/

namespace Sys2Proof.Machine

open Sys2Proof

/-! ### Doorbells, core interrupts and the SPI status byte (R209, R210, R227, R228, R230) -/

/-- The FIFO whose visible message bit 0 of doorbell set `t` shows. -/
def msgFifo (t : Nat) : Nat :=
  match t with
  | 0 => 1 | 1 => 0 | 2 => 3 | _ => 2

/-- MBX_DBSTAT(t): the latched bits with MSG. -/
def State.dbView (s : State) (t : Nat) : Word := setFld (s.dbBits t) 0 1 (b2n (decide (0 < (s.fifo (msgFifo t)).visible)))

/-- HIRQ_N is driven low. -/
def State.hirq (s : State) : Bool := (s.dbView 0 &&& s.rd (aOf.mbxDbmask 0)) != 0#32

/-- A core's interrupt input (R209, R210): an unmasked bit of its own doorbell set, or, for the core ACTIVE names, of the
active-core set. -/
def State.coreIrq (s : State) (c : Core) : Bool :=
  let unmasked (t : Nat) : Bool := (s.dbView t &&& s.rd (aOf.mbxDbmask t)) != 0#32
  unmasked (2 + c.idx) || (decide (c = s.active) && unmasked 1)

/-- The SPI status byte (Table 10-8). -/
def State.spiByte (s : State) (full : Bool) (st : Nat) : Nat :=
  b2n full * 128 + b2n s.cpu.pwerr * 64 + b2n s.hirq * 32 + b2n (decide (0 < (s.fifo 1).visible)) * 16 + st

/-- An SPI frame ends with a status and data; INVALID and DENIED raise event 906 (R234). -/
def State.spiEnd (s : State) (full : Bool) (st : Nat) (v : Word) : State :=
  let s := s.when (st == stInvalid || st == stDenied) (·.raise 906)
  s.emit (.spi (s.spiByte full st) v)

/-! ### Mailboxes (R210, R220) -/

/-- The core that writes FIFO `d`, and the one that reads it; the host is `none`. -/
def State.mbxWriter (s : State) (d : Nat) : Option Core :=
  match d with
  | 0 => none | 1 => some s.active | 2 => some .cp0 | _ => some .cp1

/-- The reader of FIFO `d`. -/
def State.mbxReader (s : State) (d : Nat) : Option Core :=
  match d with
  | 0 => some s.active | 1 => none | 2 => some .cp1 | _ => some .cp0

/-- A word joins FIFO `d` with the stamp of its post (R22, R24), or is refused with event 904 when it is full. -/
def State.postWord (s : State) (d : Nat) (v : Word) : State :=
  if (s.fifo d).free = 0 then s.raise 904 else s.drawn.setFifo d ((s.fifo d).push (s.stampOf false) v)

/-- MAILBOX_POST (R220): the host over SPI, or a core. -/
def execMailboxPost (w : MbxAgent) (d : Fin 4) (v : Word) (s : State) : Res :=
  let s := s.begin
  let full := decide ((s.fifo d.val).free = 0)
  match w with
  | .host => done (s.when (s.alive && d.val == 0) (fun s =>
      (s.postWord 0 v).spiEnd full (if full then 8 else 0) 0#32))
  | .core c => done (s.when (s.alive && s.domOn pdCtrl) (fun s =>
      if s.mbxWriter d.val ≠ some c then s.emit .busError
      else (s.postWord d.val v).when full (·.emit .busError)))

/-- HOST_GENERATION_WRITE (R222, R223). -/
def execHostGenerationWrite (v : Word) (s : State) : Res :=
  let s := s.begin
  done (s.when s.alive (fun s =>
    let s := s.hostGen (fld v 0 4)
    (drainOutbox s.fw.outbox.length s).hibernateNow.spiEnd false 0 0#32))

/-- DOORBELL_SET (R227): the host may set bits of the active-core set only. -/
def execDoorbellSet (a : DbAgent) (t : Fin 4) (bits : Word) (s : State) : Res :=
  let s := s.begin
  match a with
  | .host => done (s.when (s.alive && t.val == 1) (fun s => (s.dbSet 1 bits).spiEnd false 0 0#32))
  | .internal => done (s.when s.alive (·.dbSet t.val bits))

/-- DOORBELL_CLEAR (R227): the host may clear bits of its own set only. -/
def execDoorbellClear (a : DbAgent) (t : Fin 4) (bits : Word) (s : State) : Res :=
  let s := s.begin
  match a with
  | .host => done (s.when (s.alive && t.val == 0) (fun s => (s.dbClear 0 bits).spiEnd false 0 0#32))
  | .internal => done (s.when s.alive (·.dbClear t.val bits))

/-- HEARTBEAT (R229): host doorbell bit 31. -/
def execHeartbeat (s : State) : Res :=
  let s := s.begin
  done (s.when s.fwRuns (·.dbSet 0 0x80000000#32))

/-- SPI_STATUS (R230): an unknown command is INVALID and has no effect; a frame that CS_N ends early has none and answers nothing. -/
def execSpiStatus (s : State) (f : SpiFrame := .status) : Res :=
  let s := s.begin
  done (s.when s.alive (fun s =>
    match f with
    | .status => s.spiEnd false 0 0#32
    | .unknown _ => s.spiEnd false stInvalid 0#32
    | .cut => s))

/-! ### Events (R232, R233) -/

/-- A write of EVT_SWSET GO: sources outside group 15 are left alone. -/
def State.swSetOp (s : State) (src : Nat) : State := s.when (src / 64 == 15) (·.raise src)

/-- EVENT_SOFTWARE_SET (R233). -/
def execEventSoftwareSet (src : Nat) (s : State) : Res := done (s.begin.access aOf.evtSwset (·.swSetOp src))

/-- Setting an enable while the status is 1 sets the routed bit. -/
def State.enableOp (s : State) (i : Nat) (v : Word) : State :=
  let rung := v &&& ~~~(s.rd (aOf.evtEn i)) &&& s.rd (aOf.evtStat i)
  let s := s.wr (aOf.evtEn i) v
  (List.range 32).foldl (fun s k => s.when (bitOf rung k) (·.ring (32 * i + k))) s

/-- EVENT_ENABLE_WRITE (R232). -/
def execEventEnableWrite (i : Fin 32) (v : Word) (s : State) : Res :=
  done (s.begin.access (aOf.evtEn i.val) (·.enableOp i.val v))

/-! ### Roles, handover, watchdogs (R217 to R219, R214) -/

/-- Firmware loses what it held in the processors: requests, replies not posted, transfers and the test. -/
def State.fwLost (s : State) : State :=
  { s with fw := { s.fw with requests := [], outbox := [], ingotXfer := none, fwXfer := none, xferClosed := [], test := none, hibernate := false } }

/-- Firmware stops until its next start. -/
def State.fwStop (s : State) : State := ({ s.fwLost with fw := { s.fwLost.fw with started := false } })

/-- ACTIVE moves to the other core, PENDING and STBY_RDY clear. -/
def State.swapRoles (s : State) : State :=
  (((s.setF aOf.sysRole 0 1 s.active.other.idx).setBit aOf.sysRole 9 false).setBit aOf.sysRole 4 false)

/-- JTAG is open (Table 10-3). -/
def State.jtagOpen (s : State) : Bool := s.fuses.lifecycle != .production

/-- RELEASE, ARBVER and slot of the image on a core; open values where the model saw no header. -/
def State.imageOn (s : State) (c : Core) : Image :=
  match s.core c with
  | .running i => i
  | _ => { slot := s.cpu.bootSlot, loose := false, arbver := (Config.imageWord 0).toNat % 33, release := Config.imageWord 1, level := 3#32 }

/-- The preferred slot of the boot record; A where it is invalid (R213). -/
def State.preferred (s : State) : Nat := match s.recLoad 1 with | some bs => fld (bodyWord bs 0) 0 1 | none => 0

/-- SYS_BOOT STAGE changes, which the boot status word shows (Table 10-4). -/
def State.setStage (s : State) (n : Nat) : State := (s.setF aOf.sysBoot 0 4 n).emit (.stage n)

/-- SYS_BOOT SLOT, TRIAL, ARB and LCS follow (Table 10-4). -/
def State.showBoot (s : State) : State :=
  let i := s.imageOn s.active
  let s := (s.setF aOf.sysBoot 8 1 i.slot).setBit aOf.sysBoot 9 (i.slot != s.preferred || i.loose)
  (s.setF aOf.sysBoot 18 6 s.fuses.arb).setF aOf.sysBoot 16 2
    (match s.fuses.lifecycle with | .development => 0 | .production => 1 | .returned => 2)

/-- ROLE_SWAP (R217): a write of SWAP by the active core while the standby is ready. -/
def execRoleSwap (m : Master) (s : State) : Res :=
  done (s.begin.access aOf.sysRole (fun s =>
    s.when (m == s.active.master && s.bit aOf.sysRole 4) (·.setBit aOf.sysRole 9 true)))

/-- The swap takes effect: event 3; the new active core answers FW_HANDOVER, and the former one is reset. -/
def State.swapOp (s : State) : State :=
  let old := s.active
  let s := (s.swapRoles.raise 3).showBoot
  match s.cpu.handover with
  | none => s
  | some _ =>
    let s := { s with cpu := { s.cpu with handover := none } }
    let s := s.answerWhere (fun r => decide (r.wait = .handover)) stOk
      (fun s _ => [(s.imageOn s.active).release, BitVec.ofNat 32 s.active.idx])
    { s.resetCore old with cpu := { (s.resetCore old).cpu with bootSlot := (s.imageOn s.active).slot } }

/-- SWAP_APPLY (R217, R218). -/
def execSwapApply (s : State) : Res :=
  let s := s.begin
  done (s.when (s.alive && s.domOn pdCtrl && s.bit aOf.sysRole 9 && !s.cpu.takeover) (·.swapOp))

/-- A handover is abandoned: the standby reboots the preferred slot, event 4, FW_HANDOVER is answered FAULT (R218). -/
def State.abandonHandover (s : State) : State :=
  let s := { s with cpu := { s.cpu with handover := none, bootSlot := s.preferred } }
  let s := (s.resetCore s.active.other).raise 4
  s.answerWhere (fun r => decide (r.wait = .handover)) stFault (fun _ _ => [])

/-- HANDOVER_TIMEOUT (R218). -/
def execHandoverTimeout (s : State) : Res :=
  let s := s.begin
  done (s.when (s.alive && s.domOn pdCtrl && s.cpu.handover.isSome && !s.bit aOf.sysRole 4) (·.abandonHandover))

/-- WATCHDOG_KICK (R219): 0x5A restarts the count. -/
def execWatchdogKick (c : Core) (v : BitVec 8) (s : State) : Res :=
  done (s.begin.access (aOf.sysWdt c.idx) (fun s => s.when (v == 0x5A#8) (fun s =>
    match c with
    | .cp0 => { s with cpu := { s.cpu with kick0 := s.extNs } }
    | .cp1 => { s with cpu := { s.cpu with kick1 := s.extNs } })))

/-- The active core is reset and reboots in place: event 2, a new device generation, and the Boot ROM reads again (R219). -/
def State.rebootActive (s : State) : State := (((s.resetCore s.active).nextGen 1).fwStop.raise 2).setStage 2

/-- A watchdog expires: the role moves when the standby is ready, else the core reboots in place. -/
def State.wdtOp (s : State) (c : Core) : State :=
  let s := (s.setBit (aOf.sysWdt c.idx) 22 true).raise c.idx
  if c = s.active then
    if s.bit aOf.sysRole 4 then { s with cpu := { s.cpu with takeover := true } }
    else s.rebootActive
  else (s.resetCore c).setBit aOf.sysRole 9 false

/-- WATCHDOG_EXPIRE (R219). -/
def execWatchdogExpire (c : Core) (s : State) : Res :=
  let s := s.begin
  done (s.when (s.alive && s.domOn pdCtrl && s.bit (aOf.sysWdt c.idx) 23) (·.wdtOp c))

/-- The standby takes the consumer role: device generation, event 2; requests held by the failed core are gone. -/
def State.takeoverOp (s : State) : State :=
  let s := { s with cpu := { s.cpu with takeover := false, handover := none } }
  (((s.swapRoles.nextGen 1).raise 2).fwLost).showBoot

/-- TAKEOVER (R219): where the standby core is no longer ready, the expired core reboots in place. -/
def execTakeover (s : State) : Res :=
  let s := s.begin
  done (s.when (s.alive && s.domOn pdCtrl && s.cpu.takeover) (fun s =>
    if s.bit aOf.sysRole 4 then s.takeoverOp
    else ({ s with cpu := { s.cpu with takeover := false } }).rebootActive))

/-- The core a bus master is. -/
def coreOfMaster : Master → Option Core
  | .cp0 => some .cp0
  | .cp1 => some .cp1
  | _ => none

/-- Fuses are blown up to `target` where the image on the writing core allows it (R214); whether blowing succeeds is
an open value. -/
def State.blowTo (s : State) (c : Core) (target : Nat) : State × Bool :=
  if target ≤ s.fuses.arb then (s, true)
  else if (s.imageOn c).arbver < target ∨ 32 < target then (s, false)
  else
    let ok := Config.fuseBlows s.free
    let s := s.drawn
    if ok then ((({ s with fuses := { s.fuses with arb := target } }).showBoot).raise 908, true) else (s, false)

/-- ARB_TARGET_WRITE (R214). -/
def execArbTargetWrite (m : Master) (target : Nat) (s : State) : Res :=
  done (s.begin.access aOf.secArb (fun s =>
    match coreOfMaster m with
    | some c => (s.blowTo c target).1
    | none => s))

end Sys2Proof.Machine
end

