-- ==== Sys2Proof/Machine/Crypt.lean ====
section
/-! DEFINITION. The two algorithms R211 names for images: SHA-256 (FIPS 180-4) and the check of an ECDSA signature on
P-256 (FIPS 186-4). The manual names them; their arithmetic is that of the standards (PRESUMED, assumption 11). -/

namespace Sys2Proof.Machine

open Sys2Proof

/-! ### SHA-256 -/

/-- A 32-bit word turned right. -/
def rotr (w n : Nat) : Nat := (w >>> n ||| w <<< (32 - n)) % 2 ^ 32

/-- The greatest `r` with `r ^ k ≤ n`, its bits below `b` tried from the top on `r`. -/
def rootFrom (k n : Nat) : Nat → Nat → Nat
  | 0, r => r
  | b + 1, r => if (r + 2 ^ b) ^ k ≤ n then rootFrom k n b (r + 2 ^ b) else rootFrom k n b r

/-- The first 64 primes, those below 312. -/
def primes64 : List Nat :=
  (List.range 312).filter (fun n => decide (2 ≤ n) && [2, 3, 5, 7, 11, 13, 17].all (fun d => decide (n = d) || decide (n % d ≠ 0)))

/-- The first 32 bits of the fractional part of the k-th root of a number, from which FIPS 180-4 takes its constants. -/
def rootWord (k p : Nat) : Nat := rootFrom k (p * 2 ^ (32 * k)) 36 0 % 2 ^ 32

/-- The round constants: from the cube roots of the first 64 primes. -/
def shaK : List Nat := primes64.map (rootWord 3)

/-- The first chaining value: from the square roots of the first 8. -/
def shaInit : List Nat := (primes64.take 8).map (rootWord 2)

/-- The rounds of one block, with the window of 16 schedule words and the working words a to h. -/
def shaRounds : List Nat → List Nat → List Nat → List Nat
  | k :: ks, w, [a, b, c, d, e, f, g, h] =>
    let w0 := w.getD 0 0
    let w1 := w.getD 1 0
    let w14 := w.getD 14 0
    let s0 := rotr w1 7 ^^^ rotr w1 18 ^^^ (w1 >>> 3)
    let s1 := rotr w14 17 ^^^ rotr w14 19 ^^^ (w14 >>> 10)
    let t1 := h + (rotr e 6 ^^^ rotr e 11 ^^^ rotr e 25) + ((e &&& f) ^^^ ((2 ^ 32 - 1 - e) &&& g)) + k + w0
    let t2 := (rotr a 2 ^^^ rotr a 13 ^^^ rotr a 22) + ((a &&& b) ^^^ (a &&& c) ^^^ (b &&& c))
    shaRounds ks (w.drop 1 ++ [(s1 + w.getD 9 0 + s0 + w0) % 2 ^ 32]) [(t1 + t2) % 2 ^ 32, a, b, c, (d + t1) % 2 ^ 32, e, f, g]
  | _, _, st => st

/-- `n` blocks of 64 bytes. -/
def shaBlocks : Nat → List Byte → List Nat → List Nat
  | 0, _, st => st
  | n + 1, bs, st =>
    let w := (List.range 16).map (fun i => beNat ((bs.drop (4 * i)).take 4))
    shaBlocks n (bs.drop 64) ((st.zip (shaRounds shaK w st)).map (fun x => (x.1 + x.2) % 2 ^ 32))

/-- The message with its padding: a 1 bit, zeros, and its length in bits. -/
def shaPad (bs : List Byte) : List Byte :=
  bs ++ [0x80#8] ++ List.replicate ((119 - bs.length % 64) % 64) 0#8 ++
    (List.range 8).map (fun i => BitVec.ofNat 8 (8 * bs.length / 256 ^ (7 - i)))

/-- SHA-256, as a big-endian number of 256 bits. -/
def sha256 (bs : List Byte) : Nat :=
  (shaBlocks ((shaPad bs).length / 64) (shaPad bs) shaInit).foldl (fun n w => n * 2 ^ 32 + w) 0

/-! ### ECDSA on P-256 -/

/-- The prime of the field. -/
def p256 : Nat := 2 ^ 256 - 2 ^ 224 + 2 ^ 192 + 2 ^ 96 - 1

/-- The order of the base point. -/
def n256 : Nat := 0xffffffff00000000ffffffffffffffffbce6faada7179e84f3b9cac2fc632551

/-- The coefficient b of y² = x³ − 3x + b. -/
def b256 : Nat := 0x5ac635d8aa3a93e7b3ebbd55769886bc651d06b0cc53b0f63bce3c3e27d2604b

/-- A point in Jacobian coordinates, x = X ÷ Z² and y = Y ÷ Z³; Z = 0 is the point at infinity. -/
structure EcPoint where
  x : Nat
  y : Nat
  z : Nat
deriving DecidableEq, Repr

/-- The base point. -/
def g256 : EcPoint :=
  { x := 0x6b17d1f2e12c4247f8bce6e563a440f277037d812deb33a0f4a13945d898c296
    y := 0x4fe342e2fe1a7f9b8ee7eb4a7c0f9e162bce33576b315ececbb6406837bf51f5, z := 1 }

/-- The point at infinity. -/
def EcPoint.zero : EcPoint := { x := 1, y := 1, z := 0 }

/-- a − b in the field. -/
def subP (a b : Nat) : Nat := (a + p256 - b % p256) % p256

/-- Twice a point. -/
def EcPoint.double (q : EcPoint) : EcPoint :=
  if q.z = 0 then q
  else
    let yy := q.y * q.y % p256
    let zz := q.z * q.z % p256
    let s := 4 * q.x * yy % p256
    let m := 3 * subP q.x zz * (q.x + zz) % p256
    let x := subP (m * m) (2 * s)
    { x := x, y := subP (m * subP s x) (8 * (yy * yy % p256)), z := 2 * q.y * q.z % p256 }

/-- The sum of two points. -/
def EcPoint.add (a b : EcPoint) : EcPoint :=
  if a.z = 0 then b
  else if b.z = 0 then a
  else
    let za := a.z * a.z % p256
    let zb := b.z * b.z % p256
    let u1 := a.x * zb % p256
    let u2 := b.x * za % p256
    let s1 := a.y * zb % p256 * b.z % p256
    let s2 := b.y * za % p256 * a.z % p256
    if u1 = u2 then (if s1 = s2 then a.double else .zero)
    else
      let h := subP u2 u1
      let r := subP s2 s1
      let hh := h * h % p256
      let v := u1 * hh % p256
      let x := subP (subP (r * r) (h * hh % p256)) (2 * v)
      { x := x, y := subP (r * subP v x) (s1 * (h * hh % p256) % p256), z := h * a.z % p256 * b.z % p256 }

/-- u1 × `a` + u2 × `b`, bit by bit from bit `k` − 1. -/
def ecSum (u1 u2 : Nat) (a b : EcPoint) : Nat → EcPoint → EcPoint
  | 0, q => q
  | k + 1, q =>
    let q := q.double
    let q := if u1.testBit k then q.add a else q
    ecSum u1 u2 a b k (if u2.testBit k then q.add b else q)

/-- x to the power `e` modulo `m`, bit by bit from bit `k` − 1. -/
def powMod (x e m : Nat) : Nat → Nat → Nat
  | 0, r => r
  | k + 1, r => powMod x e m k (if e.testBit k then r * r % m * x % m else r * r % m)

/-- The signature (r, s) on the digest `z` verifies under the public key (x, y). -/
def ecdsaOk (x y z r s : Nat) : Bool :=
  decide (x < p256) && decide (y < p256) && decide (y * y % p256 = (x * x * x + b256 + (p256 - 3) * x) % p256) &&
  decide (1 ≤ r) && decide (r < n256) && decide (1 ≤ s) && decide (s < n256) &&
  (let w := powMod s (n256 - 2) n256 256 1
   let q := ecSum (z * w % n256) (r * w % n256) g256 { x := x, y := y, z := 1 } 256 .zero
   q.z != 0 && (let i := powMod q.z (p256 - 2) p256 256 1
                q.x * (i * i % p256) % p256 % n256 == r))

end Sys2Proof.Machine
end

