-- ==== Sys2Proof/Machine/Image.lean ====
section
/-! DEFINITION. Firmware images: the header of R211, the checks of R212 and what an image in the flash or in the TCMs
shows of itself. -/

namespace Sys2Proof.Machine

open Sys2Proof

/-- The unique ID of the device: the factory record's where one is valid (Table 13-5), else what the part carries. -/
def State.uniqueId (s : State) : Nat :=
  match s.recLoad 0 with
  | some bs => leNat (bs.take 8)
  | none => s.fuses.uniqueId.toNat

/-- The little-endian field of `n` bytes at offset `o` of an image header. -/
def hdrField (h : List Byte) (o n : Nat) : Nat := leNat ((h.drop o).take n)

/-- ILEN. -/
def hdrIlen (h : List Byte) : Nat := hdrField h 0x08 4

/-- DLEN. -/
def hdrDlen (h : List Byte) : Nat := hdrField h 0x0C 4

/-- OEM. -/
def hdrOem (h : List Byte) : Bool := hdrField h 0x06 2 % 2 == 1

/-- LC_PROD. -/
def hdrProd (h : List Byte) : Bool := hdrField h 0x06 2 / 2 % 2 == 1

/-- LC_RETURN. -/
def hdrReturn (h : List Byte) : Bool := hdrField h 0x06 2 / 4 % 2 == 1

/-- The bytes from `o` on, `n` of them, are 0. -/
def zeroField (h : List Byte) (o n : Nat) : Bool := ((h.drop o).take n).all (· == 0#8)

/-- Check 1 of Table 10-2. -/
def hdrOk (h : List Byte) : Bool :=
  hdrField h 0 4 == 0x55483634 && hdrField h 4 2 == 1 && decide (hdrField h 6 2 < 8) &&
  decide (4 ≤ hdrIlen h) && decide (hdrIlen h ≤ 65536) && hdrIlen h % 4 == 0 &&
  decide (hdrDlen h ≤ 65536) && hdrDlen h % 4 == 0 && decide (hdrField h 0x1C 4 < hdrIlen h) &&
  zeroField h 0x24 4 && zeroField h 0xD0 44 && (crc32c (h.take 0xFC)).toNat == hdrField h 0xFC 4

/-- The number of a lifecycle state: the LCS code and the bit of LCMASK. -/
def Lifecycle.code : Lifecycle → Nat
  | .development => 0 | .production => 1 | .returned => 2

/-- The key hash of the factory record that a header's OEM bit selects. -/
def State.keyHash (s : State) (oem : Bool) : Option Nat :=
  (s.recLoad 0).map (fun bs => beNat ((bs.drop (if oem then 0x40 else 0x20)).take 32))

/-- The reject code of an image whose header is `h` and whose payload `pay` is read when the header passes, 0 when every
check of Table 10-2 passes (R212); `xspiError` where reading it from the flash met one. -/
def State.imageCode (s : State) (h : List Byte) (pay : Nat → List Byte) (xspiError : Bool) : Nat :=
  let key := (h.drop 0x50).take 64
  let oem := hdrOem h
  let bind := hdrField h 0x28 8
  if !hdrOk h then 1
  else if xspiError then 2
  else if (s.fuses.lifecycle == .returned && oem) || s.keyHash oem != some (sha256 key) then 3
  else if !ecdsaOk (beNat (key.take 32)) (beNat (key.drop 32)) (sha256 (h.take 0x90)) (beNat ((h.drop 0x90).take 32))
      (beNat ((h.drop 0xB0).take 32)) then 4
  else if sha256 (pay (hdrIlen h + hdrDlen h)) ≠ beNat ((h.drop 0x30).take 32) then 5
  else if hdrField h 0x10 4 < s.fuses.arb then 6
  else if hdrField h 0x20 4 / 2 ^ s.fuses.lifecycle.code % 2 = 0 then 7
  else if bind ≠ 0 ∧ bind ≠ s.uniqueId then 8
  else if hdrReturn h && (bind == 0 || oem) then 9
  else 0

/-- `n` bytes of the flash from offset `a`. -/
def State.flashBytes (s : State) (a n : Nat) : List Byte := getBytes flashInit s.cpu.flash a n

/-- Where a slot starts. -/
def slotBase (slot : Nat) : Nat := slot * 0x100000

/-- The header of the image in a slot. -/
def State.slotHdr (s : State) (slot : Nat) : List Byte := s.flashBytes (slotBase slot) 256

/-- The reject code of the image in a slot. -/
def State.slotCode (s : State) (slot : Nat) (xspiError : Bool) : Nat :=
  s.imageCode (s.slotHdr slot) (fun n => s.flashBytes (slotBase slot + 256) n) xspiError

/-- The reject code of an image held as bytes: R212 without check 2 (R213). -/
def State.bytesCode (s : State) (bs : List Byte) : Nat := s.imageCode (bs.take 256) (fun n => (bs.drop 256).take n) false

/-- What a header names. -/
def imageOf (slot : Nat) (loose : Bool) (h : List Byte) : Image :=
  { slot := slot, loose := loose, arbver := hdrField h 0x10 4, release := BitVec.ofNat 32 (hdrField h 0x14 4), level := BitVec.ofNat 32 (hdrField h 0x18 4) }

/-- A lifecycle advance an accepted image brings (R215); on entry to RETURN NV 0x08000 to 0x3FFFF is written to 0. -/
def State.advanceLife (s : State) (h : List Byte) : State :=
  let s := s.when (hdrProd h && s.fuses.lifecycle == .development) (fun s => { s with fuses := { s.fuses with lifecycle := .production } })
  s.when (hdrReturn h && s.fuses.lifecycle == .production) (fun s =>
    let wiped (a : Nat) : Bool := decide (0x8000 ≤ a) && decide (a < 0x40000)
    { s with fuses := { s.fuses with lifecycle := .returned }
             nv := { s.nv with
               cells := tclear wiped s.nv.cells
               bad := s.nv.bad.filter (fun g => !wiped (g * 8))
               weak := s.nv.weak.filter (fun g => !wiped (g * 8)) } })

/-- The Boot ROM starts an accepted image on core `c` (R211, R215): the payload stands in the core's TCMs, the lifecycle advances
first, and SYS_WDT EN is set. -/
def State.runImage (s : State) (c : Core) (i : Image) (h pay : List Byte) : State :=
  let base := c.idx * 0x20000
  let tcm := putBytes zeroInit (putBytes zeroInit s.cpu.tcm base (pay.take (hdrIlen h))) (base + 0x10000) (pay.drop (hdrIlen h))
  let s := ((s.advanceLife h).setCore c (.running i)).setBit (aOf.sysWdt c.idx) 23 true
  let s := { s with cpu := { s.cpu with tcm := tcm } }
  match c with
  | .cp0 => { s with cpu := { s.cpu with kick0 := s.extNs } }
  | .cp1 => { s with cpu := { s.cpu with kick1 := s.extNs } }

/-- The same from a slot. -/
def State.runSlot (s : State) (c : Core) (slot : Nat) : State :=
  let h := s.slotHdr slot
  s.runImage c (imageOf slot false h) h (s.flashBytes (slotBase slot + 256) (hdrIlen h + hdrDlen h))

end Sys2Proof.Machine
end

