-- ==== Sys2Proof/Machine/Cal.lean ====
section
/-! DEFINITION. Sensors and the ADC (R293 to R297): schedules, conversions, coefficients, calibration, and the
commands of that family. -/

namespace Sys2Proof.Machine

open Sys2Proof

/-! ### Conversion (R293, R294) -/

/-- The CAL block can work. -/
def State.calOn (s : State) : Bool := s.alive && s.domOn pdCtrl

/-- A CAL register as applied at the last boundary that applied it. -/
def State.calApplied (s : State) (a : Nat) : Word := tget (fun _ => 0#32) s.cal.applied a

/-- The temperature of a code by coefficients C0, XMID, C1 and C2, saturated to S9.7. -/
def tempFrom (w0 w1 w2 : Word) (x : Nat) : Int :=
  let d : Int := x - (fld w0 16 16 : Nat)
  let c1 := sx 32 w1.toNat
  let c2 := sx 32 w2.toNat
  satS 16 (sx 16 (fld w0 0 16) + roundEven ((c1 * d * 2 ^ 16 + c2 * d * d) * 128) (2 ^ 40))

/-- The temperature sensor `i` reports for a code. -/
def State.sensorTemp (s : State) (i x : Nat) : Int :=
  let e := fld (s.calApplied (aOf.calTsctl i)) 0 2
  tempFrom (s.calApplied (aOf.calTsc0 (4 * i + e))) (s.calApplied (aOf.calTsc1 (4 * i + e))) (s.calApplied (aOf.calTsc2 (4 * i + e))) x

/-- The object under calibration: a sensor, 16 for the ADC. -/
def State.calObject (s : State) : Option Nat := s.cal.calRun.bind List.head?

/-- STALE of sensor `i` at a boundary. -/
def State.sensorStale (s : State) (i : Nat) : Bool := !s.cal.everApplied.contains i || s.calObject == some i

/-- SEL and the coefficients of sensor `i` take effect. -/
def State.applySensor (s : State) (i : Nat) : State :=
  let regs := aOf.calTsctl i :: (List.range 4).flatMap (fun e =>
    [aOf.calTsc0 (4 * i + e), aOf.calTsc1 (4 * i + e), aOf.calTsc2 (4 * i + e)])
  let t := regs.foldl (fun t a => tset (fun _ => 0#32) t a (s.rd a)) s.cal.applied
  { s with cal := { s.cal with applied := t, pendApply := s.cal.pendApply.filter (· != i)
                               everApplied := if s.cal.everApplied.contains i then s.cal.everApplied else i :: s.cal.everApplied } }

/-- AIN input `j` delivers a code. -/
def State.deliverAin (s : State) (j : Nat) (c : BitVec 12) : State :=
  let s := s.wr (aOf.calAin j) (c.setWidth 32)
  { s with cal := { s.cal with ntcSeen := tset (fun _ => 0) s.cal.ntcSeen j (s.extNs + 1) } }

/-- Sensor `i` at a boundary: its temperature, unless it is held by a calibration, and STALE. -/
def State.deliverTs (s : State) (i : Nat) (codes : List (BitVec 16)) : State :=
  let held := s.calObject == some i
  let e := fld (s.calApplied (aOf.calTsctl i)) 0 2
  let s := s.when (!held) (fun s => s.setF (aOf.calTs i) 0 16 (unsx 16 (s.sensorTemp i (codes.getD e 0#16).toNat)))
  s.setBit (aOf.calTs i) 31 (s.sensorStale i)

/-- A 1 ms schedule boundary. -/
def State.scheduleOp (s : State) (r : AdcReadings) : State :=
  let s := s.cal.pendApply.foldl (·.applySensor ·) s
  let s := (r.ain.zipIdx).foldl (fun s e => s.deliverAin (e.2 + 1) e.1) s
  let s := (r.ts.zipIdx).foldl (fun s e => s.deliverTs e.2 e.1) s
  s.bandFromNtc

/-! ### Factory and user values (R295, R296) -/

/-- A 16-bit code of a body. -/
def bodyHalf (bs : List Byte) (o : Nat) : Nat := leNat ((bs.drop o).take 2)

/-- A calibration entry (Table 13-6) at byte `o` of a body: trim, failed elements, chosen element, residual, seconds. -/
def calEntry (bs : List Byte) (o : Nat) : List Word := (List.range 3).map (fun i => bodyWord (bs.drop o) i)

/-- The entry of object `i` (16 and 17 the ADC cores) in the user calibration record, or the factory record. -/
def State.calEntryOf (s : State) (factory : Bool) (i : Nat) : Option (List Word) :=
  if factory then (s.recLoad 0).map (fun bs => calEntry bs (if i < 16 then 0x280 + i * 12 else 0x340 + (i - 16) * 12))
  else (s.recLoad 7).map (fun bs => calEntry bs (i * 12))

/-- The entry in force: the user's, else the factory's. -/
def State.calInForce (s : State) (i : Nat) : Option (List Word) :=
  match s.calEntryOf false i with
  | some e => some e
  | none => s.calEntryOf true i

/-- Word `i` of an entry. -/
def entryWord (e : Option (List Word)) (i : Nat) : Word := ((e.getD []).getD i 0#32)

/-- C1 and C2 of an element from its three codes; `none` where a < 0 < b fails. -/
def coefsOf (xc xm xh : Nat) : Option (Int × Int) :=
  let a : Int := (xc : Int) - xm
  let b : Int := (xh : Int) - xm
  if a < 0 ∧ 0 < b then
    let d := -(a * b * (b - a))
    let k := 110 * a + 65 * b
    some (roundEven ((65 * b * (b - a) + k * a) * 2 ^ 24) d.toNat, roundEven (-k * 2 ^ 40) d.toNat)
  else none

/-- Firmware writes the coefficients of sensor `i` from the factory codes and the entry in force, and applies them. -/
def State.loadSensor (s : State) (i : Nat) : State :=
  match s.recLoad 0 with
  | none => s
  | some bs =>
    let en := entryWord (s.calInForce i) 0
    let sel := fld en 0 4 % 4
    let s := (List.range 4).foldl (fun s e =>
      let o := 0x60 + (4 * i + e) * 8
      let ofs : Int := if e = sel then sx 16 (fld en 16 16) else 0
      match coefsOf (bodyHalf bs o) (bodyHalf bs (o + 2)) (bodyHalf bs (o + 4)) with
      | none => s.setBit (aOf.calTsctl i) (4 + e) true
      | some (c1, c2) =>
        ((s.wr (aOf.calTsc0 (4 * i + e)) (BitVec.ofNat 32 (bodyHalf bs (o + 2) * 65536 + unsx 16 (3200 + ofs)))).wr
          (aOf.calTsc1 (4 * i + e)) (BitVec.ofInt 32 c1)).wr (aOf.calTsc2 (4 * i + e)) (BitVec.ofInt 32 c2)) s
    let s := s.setF (aOf.calTsctl i) 0 2 sel
    { s with cal := { s.cal with pendApply := if s.cal.pendApply.contains i then s.cal.pendApply else i :: s.cal.pendApply } }

/-- The quadratic through values at −40, +25 and +135 °C, at `t` in S9.7, rounded half to even. -/
def interpTrim (v0 v1 v2 : Int) (t : Int) : Int :=
  let x0 : Int := -40 * 128
  let x1 : Int := 25 * 128
  let x2 : Int := 135 * 128
  let d01 := x1 - x0
  let d02 := x2 - x0
  let d12 := x2 - x1
  let n := v0 * (t - x1) * (t - x2) * d12 - v1 * (t - x0) * (t - x2) * d02 + v2 * (t - x0) * (t - x1) * d01
  roundEven n (d01 * d02 * d12).toNat

/-- The factory trim of a core at a temperature: GAIN and OFS. -/
def factoryTrim (bs : List Byte) (k : Nat) (t : Int) : Int × Int :=
  let v (i : Nat) := bodyHalf bs (0x260 + k * 8 + 2 * i)
  (interpTrim (v 0 % 1024 : Nat) (v 1 % 1024 : Nat) (v 2 % 1024 : Nat) t,
   interpTrim (sx 6 (v 0 / 1024)) (sx 6 (v 1 / 1024)) (sx 6 (v 2 / 1024)) t)

/-- A trim in CAL_ADC layout. -/
def trimWord (g o : Int) : Nat := unsx 6 o * 1024 + unsx 10 g

/-- Firmware writes CAL_ADC(k): the factory trim at the present Tj plus the user delta (R295). -/
def State.trimCore (s : State) (k : Nat) : State :=
  match s.recLoad 0, s.dieMax with
  | some bs, some t =>
    let f := factoryTrim bs k t
    let u := entryWord (s.calEntryOf false (16 + k)) 0
    s.setF (aOf.calAdc k) 0 16 (trimWord (f.1 + sx 10 (fld u 16 10)) (f.2 + sx 6 (fld u 26 6)))
  | _, _ => s

/-! ### Calibration (R297) -/

/-- Insert a number in ascending order. -/
def insertInt (v : Int) : List Int → List Int
  | [] => [v]
  | w :: r => if v ≤ w then v :: w :: r else w :: insertInt v r

/-- Twice the median of some numbers. -/
def median2 (l : List Int) : Int :=
  let m := l.foldl (fun m v => insertInt v m) []
  let n := m.length
  if n % 2 = 1 then 2 * m.getD (n / 2) 0 else m.getD (n / 2 - 1) 0 + m.getD (n / 2) 0

/-- The values some elements have. -/
def valuesOf (l : List (Option Int)) (es : List Nat) : List Int := es.filterMap (fun e => (l.getD e none))

/-- What the calibration of a sensor finds: failed elements, the chosen one with the move of its C0, the residual in
m°C, and the cause of a failure (0 on a pass). -/
structure SensorCal where
  failed : Nat
  elem : Nat
  move : Int
  residual : Int
  cause : Nat

/-- Steps 2 to 5 of R297. -/
def sensorCal (readings verify : List (Option Int)) : SensorCal :=
  let valid := (List.range 4).filter (fun e => (readings.getD e none).isSome)
  let m := roundEven (median2 (valuesOf readings valid)) 2
  let off (e : Nat) : Int := (readings.getD e none).getD 0
  let bad := valid.filter (fun e => decide (256 < (off e - m).natAbs))
  let good := valid.filter (fun e => !bad.contains e)
  let failed := (bad.map (2 ^ ·)).sum
  if valid.isEmpty then ⟨failed, 0, 0, 0, 4⟩
  else if good.length < 2 then ⟨failed, 0, 0, 0, 3⟩
  else
    let m := if bad.isEmpty then m else roundEven (median2 (valuesOf readings good)) 2
    let best := good.foldl (fun b e => if (off e - m).natAbs < (off b - m).natAbs then e else b) (good.headD 0)
    let v : Int := (verify.getD best none).getD 0
    let res := roundEven ((2 * v - median2 (valuesOf verify good)) * 1000) 1024
    ⟨failed, best, m - off best, res, if res.natAbs ≤ 250 then 0 else 2⟩

/-- CAL_RES0 and CAL_RES1. -/
def State.calResult (s : State) (res : Int) (trim failed elem : Nat) : State :=
  (s.wr aOf.calRes0 (BitVec.ofInt 32 res)).wr aOf.calRes1 (BitVec.ofNat 32 (trim % 65536 * 65536 + failed % 16 * 16 + elem % 16))

/-- The user calibration record with entry `i` replaced. -/
def State.saveCalEntry (s : State) (i : Nat) (e : List Word) : State :=
  let body := (s.recLoad 7).getD []
  let body := body ++ List.replicate (216 - body.length) 0#8
  s.recSave 7 (body.take (12 * i) ++ wordsBytes e ++ body.drop (12 * i + 12))

/-- Seconds of the extended time. -/
def State.seconds (s : State) : Word := BitVec.ofInt 32 ((s.fw.servo.baseNs + s.extNs) / 1000000000)

/-- A CAL_RUN with STORE waits. -/
def State.calStore (s : State) : Bool :=
  s.fw.requests.any (fun r => decide (r.wait = .calEnd) && bitOf (r.q.ws.headD 0#32) 8)

/-- Sensor `i`'s calibration ends; its failure cause. -/
def State.endSensor (s : State) (i : Nat) (c : SensorCal) : State × Nat :=
  let s := s.when (c.failed != 0) (·.raise 842)
  let s := s.setF (aOf.calTsctl i) 4 4 c.failed
  let a := aOf.calTsc0 (4 * i + c.elem)
  if c.cause = 0 then
    let s := (s.setF a 0 16 (unsx 16 (sx 16 (s.f a 0 16) + c.move))).setF (aOf.calTsctl i) 0 2 c.elem
    let trim := unsx 16 (sx 16 (s.f a 0 16) - 3200)
    let s := ((s.applySensor i).calResult c.residual trim c.failed c.elem).setBit (aOf.calTs i) 31 false
    let s := s.when s.calStore (fun s =>
      s.saveCalEntry i [BitVec.ofNat 32 (trim * 65536 + c.failed * 16 + c.elem), BitVec.ofInt 32 c.residual, s.seconds])
    (s.raise 840, 0)
  else
    let s := s.calResult c.residual (unsx 16 (sx 16 (s.f a 0 16) - 3200)) c.failed c.elem
    ((s.setBit (aOf.calTs i) 31 (!s.cal.everApplied.contains i)).raise 841, c.cause)

/-- The ADC's calibration ends: the core with the smaller residual serves. -/
def State.endAdc (s : State) (vref : Nat) (res : List Int) (trim : List (BitVec 16)) : State × Nat :=
  let r (k : Nat) : Int := res.getD k 0
  let inService := [0, 1].filter (fun k => !s.bit aOf.calCtrl (1 + k))
  let cause := if vref < 2450 ∨ 2550 < vref then 1 else if inService.any (fun k => decide (500 < (r k).natAbs)) then 2 else 0
  let core := inService.foldl (fun b k => if (r k).natAbs < (r b).natAbs then k else b) (inService.headD (s.f aOf.calCtrl 0 1))
  if cause = 0 then
    let s := inService.foldl (fun s k => s.setF (aOf.calAdc k) 0 16 (trim.getD k 0#16).toNat) s
    let s := (s.setF aOf.calCtrl 0 1 core).calResult (r core) (s.f (aOf.calAdc core) 0 16) 0 core
    let s := s.when s.calStore (fun s => inService.foldl (fun s k =>
      match s.recLoad 0, s.dieMax with
      | some bs, some t =>
        let f := factoryTrim bs k t
        let w := s.rd (aOf.calAdc k)
        let d := trimWord ((fld w 0 10 : Nat) - f.1) (sx 6 (fld w 10 6) - f.2)
        s.saveCalEntry (16 + k) [BitVec.ofNat 32 (d * 65536 + k), BitVec.ofInt 32 (r k), s.seconds]
      | _, _ => s) s)
    (s.raise 840, 0)
  else ((s.calResult (r core) (s.f (aOf.calAdc core) 0 16) 0 core).raise 841, cause)

/-- The reply to a CAL_RUN when its run ends (R257). -/
def State.answerCal (s : State) (cause : Nat) : State :=
  let st := if cause = 0 then stOk else if cause = 4 then stStale else stFault
  s.answerWhere (fun r => decide (r.wait = .calEnd)) st (fun s r =>
    [BitVec.ofNat 32 (fld (r.q.ws.headD 0#32) 0 8), s.rd aOf.calRes0, s.rd aOf.calRes1 &&& 0xFFFF000F#32])

/-- One object of a run ends; the run goes on with the next, or ends with FAIL and CAUSE of the first failure. -/
def State.endObject (s : State) (rest : List Nat) (cause : Nat) : State :=
  let s := { s with cal := { s.cal with calRun := if rest.isEmpty then none else some rest } }
  let s := s.when (cause != 0 && !s.bit aOf.calCmd 29) (fun s => (s.setBit aOf.calCmd 29 true).setF aOf.calCmd 24 3 cause)
  if rest.isEmpty then
    let s := s.setBit aOf.calCmd 30 false
    s.answerCal (if s.bit aOf.calCmd 29 then s.f aOf.calCmd 24 3 else 0)
  else s

/-- Objects a CAL_CMD OBJ names. -/
def calObjects (obj : Nat) : List Nat :=
  if obj < 16 then [obj] else if obj = 0x10 then [16] else if obj = 0x20 then List.range 16 else []

/-- CAL_CMD with GO sets OBJ; the GO is ignored while BUSY, and for an OBJ that names nothing. -/
def State.calGo (s : State) (obj : Nat) : State :=
  if s.cal.calRun.isSome || (calObjects obj).isEmpty then s.setF aOf.calCmd 0 8 obj
  else
    let s := { s with cal := { s.cal with calRun := some (calObjects obj) } }
    s.wr aOf.calCmd (BitVec.ofNat 32 (2 ^ 30 + obj))

/-! ### Commands -/

/-- ADC_SCHEDULE (R293, R294). -/
def execAdcSchedule (r : AdcReadings) (s : State) : Res :=
  let s := s.begin
  done (s.when s.calOn (·.scheduleOp r))

/-- AIN0_CONVERSION (R293, R114): the Temper engine keeps the lowest code of its window. -/
def execAin0Conversion (code : BitVec 12) (s : State) : Res :=
  let s := s.begin
  done (s.when s.calOn (fun s =>
    let s := s.wr (aOf.calAin 0) (code.setWidth 32)
    s.when (s.domOn pdPipe) (fun s =>
      let low := match s.temper.vbatLow with | none => code.toNat | some v => min v code.toNat
      { s with temper := { s.temper with vbatLow := some low } })))

/-- APPLY of a sensor waits for its boundary. -/
def State.applyOp (s : State) (i : Nat) : State :=
  { s with cal := { s.cal with pendApply := if s.cal.pendApply.contains i then s.cal.pendApply else i :: s.cal.pendApply } }

/-- CAL_APPLY (R294). -/
def execCalApply (i : Fin 16) (s : State) : Res := done (s.begin.access (aOf.calTsctl i.val) (·.applyOp i.val))

/-- CAL_START (R297). -/
def execCalStart (obj : BitVec 8) (s : State) : Res := done (s.begin.access aOf.calCmd (·.calGo obj.toNat))

/-- CAL_END (R297): the outcome of the object under calibration. -/
def execCalEnd (r : CalOutcome) (s : State) : Res :=
  let s := s.begin
  match s.cal.calRun, r with
  | some (16 :: rest), .adc v res trim => done (s.when s.calOn (fun s =>
      let (s, c) := s.endAdc v res trim
      s.endObject rest c))
  | some (i :: rest), .sensor rd vf => done (s.when (s.calOn && decide (i < 16)) (fun s =>
      let (s, c) := s.endSensor i (sensorCal rd vf)
      s.endObject rest c))
  | _, _ => done s

/-- ADC_TRIM_UPDATE (R295): once per second. -/
def execAdcTrimUpdate (s : State) : Res :=
  let s := s.begin
  done (s.when s.fwRuns (fun s => (s.trimCore 0).trimCore 1))

/-- CAL_RUN_TIMEOUT (R257): a CAL_RUN not complete after 2 s. -/
def execCalRunTimeout (s : State) : Res :=
  let s := s.begin
  done (s.when s.fwRuns (·.answerWhere (fun r => decide (r.wait = .calEnd)) stTimeout (fun _ _ => [])))

end Sys2Proof.Machine
end

