-- ==== Sys2Proof/Machine/Edge.lean ====
section
/-! DEFINITION. The frame-start edge (R181, R182) and all it carries: the tag of the new frame (R19, R20),
commits, offsets, masks, Temper values, the link and its SOF, and what the lamp manager does at an edge;
the launch of a frame (R25, R26). -/

namespace Sys2Proof.Machine

open Sys2Proof

/-- The time base makes the edge: time reaches te, a pending period takes effect and rebases the epoch. -/
def State.edgeTime (s : State) : State :=
  let k := s.time.nextK
  let te := s.time.nextTe
  let s := s.advanceTo te
  let p := s.periodNs
  let s := s.when s.time.pendPeriod.isSome (fun s => s.wr aOf.timeEpoch (te - BitVec.ofNat 32 (k.toNat * p)))
  let s := s.wr aOf.timeLast te
  { s with time := { s.time with lastK := k, nextK := k + 1#32, nextTe := te + BitVec.ofNat 32 p, pendPeriod := none, pendTemper := false } }

/-- TIME_NEXT. -/
def State.timeNextView (s : State) : Word := if s.time.running then s.time.nextTe else s.rd aOf.timeNext

/-- Every waveform of the tiles that satisfy `p` ends (R97). -/
def State.clearWaves (s : State) (p : Nat → Bool) : State :=
  (List.range (s.part.gridH / 8)).foldl (fun s r =>
    (List.range (s.part.gridW / 8)).foldl (fun s c =>
      let t := r * 512 + c
      s.when (p t && (s.wave t).busy != 0) (·.clearWave t)) s) s

/-- LC-shutter mode, and with overdrive, in a register file. -/
def lcOf (p : Part) (regs : Tab Word) : Bool × Bool :=
  let r := tget (resetValue p) regs aOf.pipeCtrl
  (bitOf r 0, bitOf r 0 && bitOf r 2)

/-- The frame that ends: lines not past S1 are abandoned (R87), the run of poisoned frames goes on or ends (R29), and
LC effects of its edge reach the tiles its abandoned lines held (R97). -/
def State.closeFrame (s : State) : State :=
  if !s.pipe.active then s
  else
    let next := s.pipe.nextRow
    let cut := decide (next < s.part.gridH)
    let s := s.when cut (fun s => (s.bump aOf.pipeErrcnt 16 16 1).raise 195)
    let s := s.when (cut && (s.pipe.tag.lcStart || s.pipe.tag.lcEnd)) (·.clearWaves (fun t => decide (next ≤ t / 512 * 8)))
    { s with pipe := { s.pipe with poisonRun := if s.pipe.poisoned then s.pipe.poisonRun + 1 else 0 } }

/-- The tag of the new frame: period, table set, band and the frame-latched registers (R19, R20, R97, R100). -/
def State.newTag (s : State) (te : Word) (period : Nat) : State :=
  let old := lcOf s.part s.pipe.tag.regs
  let new := lcOf s.part s.regs
  let start := new.1 && (!old.1 || (new.2 && !old.2))
  let stop := (old.1 && !new.1) || (new.1 && old.2 && !new.2)
  let changed := s.pipe.active && s.pipe.band != s.pipe.tag.band
  let b := s.beam.setB
  let s := { s with pipe := { s.pipe with tag := { number := s.pipe.tag.number, te := te, period := period, setB := b, band := s.pipe.band, regs := s.regs, lcStart := start, lcEnd := stop } } }
  let s := ((s.setF aOf.pipeStat 1 3 s.pipe.band).setBit aOf.pipeStat 0 b).wr aOf.pipeFrame s.pipe.tag.number
  let s := s.when changed (·.raise 198)
  s.when (start || stop) (·.clearWaves (fun t => !s.tileLive b t))

/-- Firmware at an edge, before pours commit: the step of a fade, and the end of the light of a lamp that enters OFF. -/
def State.lampBefore (s : State) (te : Word) : State :=
  if s.fwRuns then
    if s.fw.entering = 2 then (({ s with fw := { s.fw with entering := 3 } }).goDark)
    else s.fadeStep te
  else s

/-- Power requests that waited for the LIT period to take effect are made (R274). -/
def State.edgeRequests (s : State) : State :=
  s.fw.requests.foldl (fun s r =>
    match r.wait with
    | .reqEdge kind target => (s.rewait (fun e => if e = r then { r with wait := .ticket s.nextTicket } else e)).request kind firmwareClient target
    | _ => s) s

/-- Firmware at an edge, after pours committed and slices lit. -/
def State.lampAfter (s : State) : State :=
  if s.fwRuns then
    let s := match s.fw.entered with
      | some t => ({ s with fw := { s.fw with entered := none } }).enterLamp t
      | none => s
    let s := s.arrive.edgeRequests
    let s := s.when s.fw.burstDue (fun s =>
      ({ s with fw := { s.fw with burstDue := false } }).when (s.device == 4) (·.periodOp (BitVec.ofNat 32 s.fw.items.burstPeriod)))
    s.rewait (fun r => if r.wait = .nextEdge then { r with wait := .launch s.frameNo, frameWord := some s.frameNo } else r)
  else s

/-- The pipeline takes the edge: frame `k` at `te` with its period. -/
def State.edgePipe (s : State) (k te : Word) (period : Nat) : State :=
  let ended := s.pipe.active
  let oldB := s.pipe.tag.setB
  let oldPeriod := s.pipe.tag.period
  let next := s.pipe.nextRow
  let view := s.view
  let s := s.closeFrame.bandEdge
  let s := { s with pipe := { s.pipe with tag := { s.pipe.tag with number := k } } }
  let s := ((s.lampBefore te).edgePours te).feed.slewOffsets.ageMasks
  let s := ((s.temperEdge ended oldB next).newTag te period).temperStart
  let s := s.linkEdge view period
  let s := s.when (oldPeriod != period || s.fw.leaving.isSome) (·.writeFok true period s.op)
  let tags := s.ewTags te period
  let s := (s.sendSof k te s.beam.setB (s.ewCovers te period) (tags.take 8)).leaveIdle
  let s := { s with pipe := { s.pipe with active := true, nextRow := 0, clocks := s.cLat s.beam.setB, poisoned := false, glare := none, orderSeen := false
                                          prevPower := s.framePower next, power := [], launched := false } }
  s.lampAfter

/-- FRAME_START_EDGE (R181). -/
def execFrameStartEdge (s : State) : Res :=
  let s := s.begin
  done (s.when (s.alive && s.domLive pdCtrl && s.time.running) (fun s =>
    let k := s.time.nextK
    let te := s.time.nextTe
    let s := s.edgeTime.latchEw
    let s := s.when (decide (8 < (s.ewTags te s.periodNs).length)) (·.raise 69)
    s.when (s.domOn pdPipe) (·.edgePipe k te s.periodNs)))

/-- What LANE_CTRL reports of a lane (R262). -/
def State.laneReport (s : State) (n : Nat) : List Word :=
  [s.rd (aOf.laneStat n), s.rd (aOf.lnkPair (n / 2)),
   (match s.sliceAt n with | some i => s.rd (aOf.lnkSlice2 i) | none => 0#32)]

/-- The reply words of a light-changing request whose frame has launched (R238, R245, R250, R251, R262). -/
def State.launchWords (s : State) (r : Request) : List Word :=
  let f := r.frameWord.getD s.frameNo
  match r.opcode.toNat with
  | 0x20 => [BitVec.ofNat 32 s.fw.lamp.code, f]
  | 0x21 | 0x22 => [f]
  | 0x90 =>
    let t := fld (r.q.ws.headD 0#32) 0 8
    [BitVec.ofNat 32 (t + b2n s.openFail * 256),
     (if t = 9 then Config.measured (s.free + 1) else BitVec.ofNat 32 ((s.fw.test.map (·.count)).getD 0)), Config.duration s.free]
  | 0xA0 => s.laneReport (fld (r.q.ws.headD 0#32) 0 6)
  | _ => []

/-- No frame launches in lamp state OFF, the link being disabled (R239, R244). -/
def State.lampDark (s : State) : Bool := s.fw.started && (s.fw.lamp == .off || s.fw.entering == 3)

/-- FRAME_LAUNCH (R25, R26). -/
def execFrameLaunch (s : State) : Res :=
  let s := s.begin
  done (s.when (s.pourOn && s.pipe.active && !s.pipe.launched && !s.lampDark) (fun s =>
    let s := { s with pipe := { s.pipe with launched := true } }
    let due (r : Request) : Bool := match r.wait with | .launch f => dueAt f s.pipe.tag.number | _ => false
    let tested := s.fw.requests.any (fun r => due r && r.opcode == 0x90#8)
    let s := s.answerWhere due stOk (fun s r => s.launchWords r)
    s.when tested (fun s => { s with free := s.free + 2, fw := { s.fw with test := none } })))

end Sys2Proof.Machine
end

