-- ==== Sys2Proof/Machine/Bus.lean ====
section
/-! DEFINITION. The internal bus (R12, R13, R30, R31): a word written or read at any address of Table 01-8, with
the effect each register gives it, and the commands that make such accesses. -/

namespace Sys2Proof.Machine

open Sys2Proof

/-! ### Registers written -/

/-- The index of an address in an array of `count` registers. -/
def entryOf (base count stride a : Nat) : Option Nat :=
  if base ≤ a ∧ a < base + count * stride ∧ (a - base) % stride = 0 then some ((a - base) / stride) else none

/-- What a write leaves in a register, by its access masks alone (Table 00-5). -/
def RegRow.written (r : RegRow) (old v : Word) : Word :=
  let m (n : Nat) : Word := BitVec.ofNat 32 n
  (((old &&& ~~~(m r.rw)) ||| (v &&& m r.rw)) &&& ~~~(v &&& m r.w1c)) ||| (v &&& m r.w1s)

/-- A write of the RW, W1C and W1S fields; a word without a register ignores it (R13). -/
def State.plainWrite (s : State) (a : Nat) (v : Word) : State :=
  match regRow a with
  | none => s
  | some r => s.wr a (r.written (s.rd a) v)

/-- The same with the fields of `keep` left as they are. -/
def State.plainBut (s : State) (a : Nat) (keep : Word) (v : Word) : State :=
  s.plainWrite a ((v &&& ~~~keep) ||| (s.rd a &&& keep))

/-- POUR_CTRL. -/
def State.writePourCtrl (s : State) (v : Word) : State :=
  let s := s.setF aOf.pourCtrl 16 8 (fld v 16 8)
  let s := [Port.p0, Port.p1].foldl (fun s p =>
    if !s.part.hasPort p then s
    else if bitOf v p.idx then s.when (!s.bit aOf.pourCtrl p.idx) (·.streamOn p)
    else s.setBit aOf.pourCtrl p.idx false) s
  s.when (bitOf v 8) (·.flushOp)

/-- LNKn_CTRL. -/
def State.writeLaneCtrl (s : State) (n : Nat) (v : Word) : State :=
  let a := aOf.laneCtrl n
  let s := s.plainBut a 0xF#32 v
  let s := s.laneRateOp n (fld v 0 2)
  let s := s.when (bitOf v 2 != s.bit a 2) (·.laneEnOp n (bitOf v 2))
  s.when (bitOf v 3 != s.bit a 3) (·.laneTakeOp n (bitOf v 3))

/-- SEG_CTRL. -/
def State.writeSegCtrl (s : State) (v : Word) : State :=
  let s := s.plainBut aOf.segCtrl 0x31#32 v
  let s := s.when (fld v 4 2 != s.f aOf.segCtrl 4 2) (·.vsrcOp (fld v 4 2))
  if bitOf v 0 then s.segEnable else s.when s.segEn (·.segDisable)

/-- The repair entry CRU_REPIDX names. -/
def State.repairIndex (s : State) : Nat × Nat := (s.f aOf.cruRepidx 4 8, s.f aOf.cruRepidx 0 4)

/-- CRU_REPDAT as read: entries 12 to 15 and banks past 135 read 0. -/
def State.repdatView (s : State) : Word :=
  let i := s.repairIndex
  if i.1 < 136 ∧ i.2 < 12 then s.repair i.1 i.2 else 0#32

/-- CRU_BANKMAP, CRU_PSTATE and CRU_REPDAT take writes only while PD_PIPE is not ON (R200). -/
def State.writeMap (s : State) (a : Nat) (v : Word) : State :=
  if s.domOn pdPipe then s
  else if a = aOf.cruRepdat then
    let i := s.repairIndex
    s.when (decide (i.1 < 136) && decide (i.2 < 12)) (·.writeRepair i.1 i.2 (v &&& 0x83FF#32))
  else if a = aOf.cruPstate 8 then s.plainWrite a (v &&& 0xFFFF#32)
  else match entryOf (aOf.cruBankmap 0) 32 4 a with
    | some i => s.mapBanks i v
    | none => s.plainWrite a v

/-- NVC_CTRL: with LOCK set, BP is not lowered (R286). -/
def State.writeNvcCtrl (s : State) (v : Word) : State :=
  let low := s.bit aOf.nvcCtrl 31 && decide (fld v 0 2 < s.f aOf.nvcCtrl 0 2)
  let s := s.when (!low) (·.setF aOf.nvcCtrl 0 2 (fld v 0 2))
  s.when (bitOf v 31) (·.lockOp)

/-- SYS_ROLE: SWAP is the active core's, STBY_RDY the standby's (R217). -/
def State.writeRole (s : State) (m : Master) (v : Word) : State :=
  let s := s.when (bitOf v 8 && m == s.active.master && s.bit aOf.sysRole 4) (·.setBit aOf.sysRole 9 true)
  s.when (m == s.active.other.master) (·.setBit aOf.sysRole 4 (bitOf v 4))

/-- SYS_WDT(c). -/
def State.writeWdt (s : State) (c : Core) (v : Word) : State :=
  let s := s.plainWrite (aOf.sysWdt c.idx) v
  s.when (fld v 24 8 == 0x5A) (fun s =>
    match c with
    | .cp0 => { s with cpu := { s.cpu with kick0 := s.extNs } }
    | .cp1 => { s with cpu := { s.cpu with kick1 := s.extNs } })

/-- MBX_DATA(d): the writer of the FIFO posts; anyone else, or a full FIFO, meets a bus error (R220). -/
def State.writeMbx (s : State) (m : Master) (d : Nat) (v : Word) : State :=
  match coreOfMaster m, s.mbxWriter d with
  | some c, some w =>
    if c ≠ w then s.emit .busError
    else if (s.fifo d).free = 0 then (s.postWord d v).emit .busError
    else s.postWord d v
  | _, _ => s.emit .busError

/-- PWR_REQ: a request of the active core (R270). -/
def State.writePwrReq (s : State) (m : Master) (v : Word) : State :=
  s.when (bitOf v 31 && m == s.active.master) (·.request (fld v 26 2) (fld v 28 3) (fld v 23 3))

/-- The oldest completion leaves PWR_DONE. -/
def State.popDone (s : State) : State := { s with pwr := { s.pwr with done := s.pwr.done.drop 1 } }

/-- Registers of PD_PIPE and below whose write does more than set fields. -/
def State.writeLight (s : State) (a : Nat) (v : Word) : Option State :=
  if a = aOf.pourCtrl then some (s.writePourCtrl v)
  else if a = aOf.pourResstat then some (s.when (bitOf v 31) (·.popResult))
  else if a = aOf.tmpCtrl then some ((s.plainWrite a v).when (!bitOf v 0) (·.temperOff))
  else if a = aOf.lnkCtrl then some ((s.plainBut a 1#32 v).when (bitOf v 0 != s.bit a 0) (·.linkEnOp (bitOf v 0)))
  else if a = aOf.lnkCal then some ((s.plainBut a 0x80000000#32 v).when (bitOf v 31) (·.calDoneOp))
  else if a = aOf.segCtrl then some (s.writeSegCtrl v)
  else match entryOf (aOf.laneCtrl 0) 64 0x400 a, entryOf (aOf.lanePrbs 0) 64 0x400 a, entryOf (aOf.laneEye 0) 64 0x400 a with
    | some n, _, _ => some (s.writeLaneCtrl n v)
    | _, some n, _ => some (s.when (bitOf v 31) (fun s => s.setLane n { s.lane n with inject := some (bitOf v 30) }))
    | _, _, some n => some (s.when (bitOf v 31) (·.eyeOp n))
    | _, _, _ => none

/-- Registers of the time base whose write does more than set fields. -/
def State.writeTime (s : State) (a : Nat) (v : Word) : Option State :=
  if a = aOf.timeSet then some (s.timeSetOp v)
  else if a = aOf.timeAdj then some (s.timeAdjOp v)
  else if a = aOf.timePeriod then some (s.periodOp v)
  else if a = aOf.timeFctrl then
    let s := s.plainBut a 1#32 v
    some (if bitOf v 0 then s.edgesOn else s.edgesOff)
  else if (a = aOf.timeEpoch ∨ a = aOf.timeFstart) ∧ s.bit aOf.timeFctrl 0 then some s
  else if a = aOf.timeTxq2 0 then some (s.when (bitOf v 31) (·.txqPopOp .p0))
  else if a = aOf.timeTxq2 1 then some (s.when (bitOf v 31) (·.txqPopOp .p1))
  else none

/-- Registers of the memories whose write does more than set fields. -/
def State.writeStore (s : State) (a : Nat) (v : Word) : Option State :=
  if a = aOf.cruRepdat then some (s.writeMap a v)
  else if a = aOf.fetRet then
    let s := s.setF aOf.fetRet 16 7 (fld v 16 7)
    some (s.when (bitOf v 31) (·.retireGo (fld v 16 7) 0))
  else if a = aOf.tunMarch then
    some (if bitOf v 31 then s.marchOp (fld v 0 7) (fld v 16 7) (bitOf v 29) else s.plainWrite a v)
  else if a = aOf.nvcCtrl then some (s.writeNvcCtrl v)
  else if a = aOf.nvcWcmd then
    some (if bitOf v 31 then s.unitOp (fld v 5 15 * 32) else s.plainWrite a v)
  else if a = aOf.nvcWear then
    let s := s.plainWrite a v
    some (s.when (bitOf v 31) (·.wearGo))
  else if a = aOf.calCmd then
    some (if bitOf v 31 then s.calGo (fld v 0 8) else s.plainWrite a v)
  else match entryOf (aOf.cruBankmap 0) 32 4 a, entryOf (aOf.cruPstate 0) 9 4 a, entryOf (aOf.tunLock 0) 64 4 a,
      entryOf (aOf.calTsctl 0) 16 4 a with
    | some _, _, _, _ => some (s.writeMap a v)
    | _, some _, _, _ => some (s.writeMap a v)
    | _, _, some n, _ => some (s.lockFree n v)
    | _, _, _, some i => some ((s.plainWrite a v).when (bitOf v 31) (·.applyOp i))
    | _, _, _, _ => none

/-- Registers of the processors, mailboxes, events and power whose write does more than set fields. -/
def State.writeCtrl (s : State) (m : Master) (a : Nat) (v : Word) : Option State :=
  if a = aOf.sysRole then some (s.writeRole m v)
  else if a = aOf.sysWdt 0 then some (s.writeWdt .cp0 v)
  else if a = aOf.sysWdt 1 then some (s.writeWdt .cp1 v)
  else if a = aOf.secArb then some (match coreOfMaster m with | some c => (s.blowTo c (fld v 0 6)).1 | none => s)
  else if a = aOf.mbxGen then some (s.when (m == s.active.master) (·.hostGen (fld v 0 4)))
  else if a = aOf.evtSwset then some (s.when (bitOf v 31) (·.swSetOp (fld v 0 10)))
  else if a = aOf.pwrReq then some (s.writePwrReq m v)
  else if a = aOf.pwrDone then some (s.when (bitOf v 30) (·.popDone))
  else match entryOf (aOf.mbxData 0) 4 0x10 a, entryOf (aOf.mbxDbset 0) 4 0x10 a, entryOf (aOf.mbxDbclr 0) 4 0x10 a,
      entryOf (aOf.evtEn 0) 32 4 a, entryOf (aOf.pwrVote 0) 12 4 a with
    | some d, _, _, _, _ => some (s.writeMbx m d v)
    | _, some t, _, _, _ => some (s.dbSet t v)
    | _, _, some t, _, _ => some (s.dbClear t v)
    | _, _, _, some i, _ => some (s.enableOp i v)
    | _, _, _, _, some d => some (s.voteOp d v)
    | _, _, _, _, _ => none

/-- A register is written by a master: what its own rule does, or its fields are set. -/
def State.regWrite (s : State) (m : Master) (a : Nat) (v : Word) : State :=
  match s.writeLight a v, s.writeTime a v, s.writeStore a v, s.writeCtrl m a v with
  | some t, _, _, _ => t
  | _, some t, _, _ => t
  | _, _, some t, _ => t
  | _, _, _, some t => t
  | _, _, _, _ =>
    if 0x40018000 ≤ a ∧ a < 0x4001C000 then
      { s with pwr := { s.pwr with retMem := putBytes zeroInit s.pwr.retMem (a - 0x40018000) (leBytes v) } }
    else s.plainWrite a v

/-! ### Registers read -/

/-- What a register reads as, before a read clears or takes anything: WO fields read 0, and words that stand
elsewhere in the state are shown (R12). -/
def State.regView (s : State) (a : Nat) : Word :=
  let at_ (base count stride : Nat) := entryOf base count stride a
  if a = aOf.sysCap then s.part.sysCap
  else if a = aOf.pourCredit then s.creditView
  else if a = aOf.pourRes0 then s.res0View
  else if a = aOf.pourRes1 then s.res1View
  else if a = aOf.pourResstat then s.resstatView
  else if a = aOf.timeNs then s.time.ns
  else if a = aOf.timeFrac then s.time.latFrac
  else if a = aOf.timeWrap then s.time.latWrap
  else if a = aOf.timeAdjrem then s.adjremView
  else if a = aOf.timeCtrl then setFld (s.rd a) 31 1 (b2n s.time.capped)
  else if a = aOf.timeNext then s.timeNextView
  else if a = aOf.cruRepdat then s.repdatView
  else if a = aOf.fetRet then s.fetRetView
  else if a = aOf.evtSum then s.evtSumView
  else if a = aOf.pwrDone then s.pwrDoneView
  else if 0x40018000 ≤ a ∧ a < 0x4001C000 then
    BitVec.ofNat 32 (leNat ((List.range 4).map (fun i => s.retByte (a - 0x40018000 + i))))
  else if a = aOf.timeTxq0 0 then s.txq0View .p0
  else if a = aOf.timeTxq0 1 then s.txq0View .p1
  else if a = aOf.timeTxq1 0 then s.txq1View .p0
  else if a = aOf.timeTxq1 1 then s.txq1View .p1
  else if a = aOf.timeTxq2 0 then s.txq2View .p0
  else if a = aOf.timeTxq2 1 then s.txq2View .p1
  else match at_ (aOf.mbxCnt 0) 4 0x10, at_ (aOf.mbxDbset 0) 4 0x10, at_ (aOf.mbxDbclr 0) 4 0x10, at_ (aOf.mbxDbstat 0) 4 0x10,
      at_ (aOf.tunLockstat 0) 2 4, at_ (aOf.segPlane 0) 192 4 with
    | some d, _, _, _, _, _ => s.mbxCntView d
    | _, some t, _, _, _, _ => s.dbView t
    | _, _, some t, _, _, _ => s.dbView t
    | _, _, _, some t, _, _ => s.dbView t
    | _, _, _, _, some j, _ => s.lockstatView j
    | _, _, _, _, _, some w => s.planeView w
    | _, _, _, _, _, _ =>
      match regRow a with
      | none => 0#32
      | some r => s.rd a &&& ~~~(BitVec.ofNat 32 r.wo)

/-- The RC fields of a register clear (Table 00-5). -/
def State.clearRc (s : State) (a : Nat) : State :=
  match regRow a with
  | none => s
  | some r => if r.rc = 0 then s else s.wr a (s.rd a &&& ~~~(BitVec.ofNat 32 r.rc))

/-- A read that returns a register and clears its RC fields. -/
def State.rcRead (s : State) (a : Nat) : State := (s.emit (.data (s.regView a))).clearRc a

/-- A register is read by a master: TIME_NS latches, TUN_LOCKn takes, MBX_DATA pops, RC fields clear. -/
def State.regRead (s : State) (m : Master) (a : Nat) : State :=
  if a = aOf.timeNs then s.timeNsOp
  else match entryOf (aOf.tunLock 0) 64 4 a, entryOf (aOf.mbxData 0) 4 0x10 a with
    | some n, _ => s.lockTake m n
    | _, some d =>
      match coreOfMaster m, s.mbxReader d with
      | some c, some r =>
        if c ≠ r then s.emit .busError
        else if (s.fifo d).visible = 0 then (s.emit (.data 0#32)).emit .busError
        else (s.popWord d).emit (.data ((s.fifo d).words.headD 0#32))
      | _, _ => s.emit .busError
    | _, _ =>
      -- PROG of FET_RET is as far as the copy or the March has come, an open value (R198)
      if a = aOf.fetRet ∧ s.cru.retire.isSome then s.drawn.emit (.data (setFld (s.regView a) 0 15 (fld (Config.measured s.free) 0 15)))
      else s.rcRead a

/-! ### The whole map (Table 01-8) -/

/-- A Tundish word behind one of its three windows, with the window's number. -/
def tunWindow (a : Nat) : Option (Nat × Nat) :=
  if 0x10000000 ≤ a ∧ a < 0x10080000 then some (0, (a - 0x10000000) / 4)
  else if 0x11000000 ≤ a ∧ a < 0x11080000 then some (1, (a - 0x11000000) / 4)
  else if 0x12000000 ≤ a ∧ a < 0x12080000 then some (2, (a - 0x12000000) / 4)
  else none

/-- A master writes a word; a bus error or DOMAIN_OFF shows in `out`. The manual gives the Boot ROM and the NV read window no
writes and does not say what one answers: a bus error here (DESIGN CHOICE, assumption 95). -/
def State.busWrite (s : State) (m : Master) (a : Nat) (v : Word) : State :=
  let a := a / 4 * 4
  if a < 0x10000 then s.emit (if s.domOn pdCtrl then .busError else .domainOff)
  else if 0x30000000 ≤ a ∧ a < 0x30100000 then s.emit (if s.domOn pdNv then .busError else .domainOff)
  else match tunWindow a with
    | some (k, w) =>
      if s.domOn pdCtrl then
        s.tunServe { master := m, word := w, ecc := .clean
                     op := if k = 0 then .write v else if k = 1 then .setBits v else .clearBits v }
      else s.emit .domainOff
    | none =>
      if 0x20000000 ≤ a ∧ a < 0x20000000 + s.part.cruSize then
        let o := a - 0x20000000
        if !s.domOn pdCru then s.emit .domainOff
        else if s.cru.poison.contains (o / 8) then (s.emit .busError).cruUncorrectable o
        else s.cruPut o (leBytes v)
      else s.access a (·.regWrite m a v)

/-- A master reads a word, which shows in `out`; the Boot ROM's contents are open. -/
def State.busRead (s : State) (m : Master) (a : Nat) : State :=
  let a := a / 4 * 4
  if a < 0x10000 then
    if s.domOn pdCtrl then s.drawn.emit (.data (Config.measured s.free)) else s.emit .domainOff
  else match tunWindow a with
    | some (_, w) =>
      if s.domOn pdCtrl then s.tunServe { master := m, word := w, op := .read, ecc := .clean } else s.emit .domainOff
    | none =>
      if 0x20000000 ≤ a ∧ a < 0x20000000 + s.part.cruSize then
        let o := a - 0x20000000
        if !s.domOn pdCru then s.emit .domainOff
        else if s.cru.poison.contains (o / 8) then (s.emit .busError).cruUncorrectable o
        else s.windowData o
      else if 0x30000000 ≤ a ∧ a < 0x30100000 then
        let o := a - 0x30000000
        if !s.domOn pdNv then s.emit .domainOff
        else s.nvDeliver o
      else s.accessRead a (·.regRead m a)

/-- The access just made met an error. -/
def State.busFailed (s : State) : Bool := s.out.contains .busError || s.out.contains .domainOff

/-- The word the access just made answered. -/
def State.busData (s : State) : Option Word :=
  if s.busFailed then none else s.out.findSome? (fun o => match o with | .data v => some v | _ => none)

/-! ### REGISTER_WRITE and the debug window -/

/-- REGISTER_WRITE (R12): a core or another internal master; over SPI the host registers of Table 10-9 that have no
row of their own, and beyond them the debug window. -/
def execRegisterWrite (m : Master) (addr : Nat) (v : Word) (s : State) : Res :=
  let s := s.begin
  if !s.alive then done s
  else if m = .spi ∧ addr = aOf.mbxDbmask 0 then done ((s.wr addr v).spiEnd false 0 0#32)
  else if m = .spi ∧ s.fuses.lifecycle = .production then done (s.spiEnd false stDenied 0#32)
  else done (s.busWrite m addr v)

/-- The internal address behind an SPI address in the debug window (R31). -/
def State.dbgAddr (s : State) (addr : Nat) : Nat := (s.cpu.dbgBase.toNat + (addr - 0x100000)) % 2 ^ 32

/-- An SPI address in the debug window (Table 01-9). -/
def inDebug (addr : Nat) : Bool := decide (0x100000 ≤ addr) && decide (addr < 0x200000)

/-- The word an SPI READ of a host register returns, where the read has no other effect (Table 10-9). -/
def State.hostWord (s : State) (addr : Nat) : Option Word :=
  match addr with
  | 0x0004 => some (BitVec.ofNat 32 ((s.fifo 1).visible + (s.fifo 0).free * 2 ^ 8 + s.oldw 1 * 2 ^ 16))
  | 0x0008 => some (BitVec.ofNat 32 (s.gen 0))
  | 0x1000 => some (s.dbView 1)
  | 0x1004 => some (s.dbView 0)
  | 0x1008 => some (s.rd (aOf.mbxDbmask 0))
  | 0x100C => some (s.dbView 0)
  | 0x2000 => some (s.rd aOf.sysBoot)
  | 0x2004 => some s.part.sysCap
  | 0x2008 => some (if s.fuses.lifecycle = .production then 0#32 else s.cpu.dbgBase)
  | _ => none

/-- An SPI address at which a host register stands whose access has a row of its own (Table 10-9). -/
def hostRow (wr : Bool) (addr : Nat) : Bool :=
  addr == 0 || (wr && (addr == 0x8 || addr == 0x1000 || addr == 0x1004 || addr == 0x1008 || addr == 0x2008))

/-- A READ ends with the result of its access: FAULT for a bus error. -/
def State.dbgEnd (s : State) : Option Word → State
  | some v => s.spiEnd false 0 v
  | none => s.spiEnd false stFault 0#32

/-- The access of a debug-window read is made; its bus errors are the bridge's, and show as FAULT. -/
def State.dbgFetch (s : State) (a : Nat) : State × Option Word :=
  let t := s.busRead .spi a
  ({ t with out := s.out }, t.busData)

/-- A READ of internal address `a` (R231). One that completes within the dummy clocks returns its result. Another goes on inside the
device and meets BUSY; a repeat takes its result once it is there. After 100 µs a READ of the address is a new one (DEDUCED, assumption 114). -/
def State.dbgReadOp (s : State) (a : Nat) (inTime : Bool) : State :=
  let now := s.extNs
  let live (r : DbgRead) : Bool := decide (now ≤ r.since + 100000)
  let rest := s.cpu.dbgRead.filter (fun r => live r && r.addr != a)
  match s.cpu.dbgRead.find? (fun r => live r && r.addr == a) with
  | some r =>
    match r.result with
    | some v => State.dbgEnd { s with cpu := { s.cpu with dbgRead := rest } } v
    | none => s.spiEnd false stBusy 0#32
  | none =>
    let s := { s with cpu := { s.cpu with dbgRead := rest } }
    if inTime then
      let r := s.dbgFetch a
      r.1.dbgEnd r.2
    else
      let r : DbgRead := { addr := a, since := now, result := none }
      State.spiEnd { s with cpu := { s.cpu with dbgRead := rest ++ [r] } } false stBusy 0#32

/-- DEBUG_WINDOW_READ (R231). At the SPI addresses of Table 10-9 a READ returns the host register; elsewhere outside the window it is
INVALID. -/
def execDebugWindowRead (addr : Nat) (s : State) (inTime : Bool := false) : Res :=
  let s := s.begin
  if !s.alive || hostRow false addr then done s
  else if addr % 4 ≠ 0 then done (s.spiEnd false stInvalid 0#32)
  else if !inDebug addr then
    match s.hostWord addr with
    | some v => done (s.spiEnd false 0 v)
    | none => done (s.spiEnd false stInvalid 0#32)
  else if s.fuses.lifecycle = .production then done (s.spiEnd false stDenied 0#32)
  else done (s.dbgReadOp (s.dbgAddr addr) inTime)

/-- DEBUG_WINDOW_WRITE (R231). A WRITE of a host register that only reads is ignored (Table 10-9); elsewhere outside
the window it is INVALID. -/
def execDebugWindowWrite (addr : Nat) (v : Word) (s : State) : Res :=
  let s := s.begin
  if !s.alive || hostRow true addr then done s
  else if addr % 4 ≠ 0 then done (s.spiEnd false stInvalid 0#32)
  else if !inDebug addr then done (s.spiEnd false (if (s.hostWord addr).isSome then 0 else stInvalid) 0#32)
  else if s.fuses.lifecycle = .production then done (s.spiEnd false stDenied 0#32)
  else match s.cpu.dbgWrite with
    | some _ => done (s.spiEnd false stBusy 0#32)
    | none => done (({ s with cpu := { s.cpu with dbgWrite := some (s.dbgAddr addr, v) } }).spiEnd false 0 0#32)

/-- The oldest forwarded read without a result completes. -/
def State.dbgComplete (s : State) : List DbgRead → List DbgRead → State
  | _, [] => s
  | before, r :: rest =>
    if r.result.isSome then s.dbgComplete (before ++ [r]) rest
    else
      let f := s.dbgFetch r.addr
      { f.1 with cpu := { f.1.cpu with dbgRead := before ++ { r with result := some f.2 } :: rest } }

/-- DEBUG_ACCESS_COMPLETE (R231): the posted write, else the oldest forwarded read, completes; a write's bus error shows in
PWERR. -/
def execDebugAccessComplete (s : State) : Res :=
  let s := s.begin
  if !s.alive then done s
  else match s.cpu.dbgWrite with
    | some (a, v) =>
      let s := s.busWrite .spi a v
      done { s with cpu := { s.cpu with dbgWrite := none, pwerr := s.busFailed } }
    | none => done (s.dbgComplete [] s.cpu.dbgRead)

/-- DBG_BASE_WRITE (R31). -/
def execDbgBaseWrite (v : Word) (s : State) : Res :=
  let s := s.begin
  if !s.alive then done s
  else if s.fuses.lifecycle = .production then done (s.spiEnd false stDenied 0#32)
  else done (({ s with cpu := { s.cpu with dbgBase := v &&& 0xFFF00000#32 } }).spiEnd false 0 0#32)

/-! ### Reads that clear (Table 00-5, RC) -/

/-- POUR_RESSTAT_READ (R12). -/
def execPourResstatRead (s : State) : Res := done (s.begin.accessRead aOf.pourResstat (·.rcRead aOf.pourResstat))

/-- POUR_ERRCNT_READ (R12). -/
def execPourErrcntRead (s : State) : Res := done (s.begin.accessRead aOf.pourErrcnt (·.rcRead aOf.pourErrcnt))

/-- PIPE_ERRCNT_READ (R12). -/
def execPipeErrcntRead (s : State) : Res := done (s.begin.accessRead aOf.pipeErrcnt (·.rcRead aOf.pipeErrcnt))

/-- TMP_ERRCNT_READ (R12). -/
def execTmpErrcntRead (s : State) : Res := done (s.begin.accessRead aOf.tmpErrcnt (·.rcRead aOf.tmpErrcnt))

/-- LNK_ERR_READ (R12). -/
def execLnkErrRead (n : Fin 64) (s : State) : Res := done (s.begin.accessRead (aOf.laneErr n.val) (·.rcRead (aOf.laneErr n.val)))

/-- LNK_ERR2_READ (R12). -/
def execLnkErr2Read (n : Fin 64) (s : State) : Res := done (s.begin.accessRead (aOf.laneErr2 n.val) (·.rcRead (aOf.laneErr2 n.val)))

/-- LNK_PRBS_READ (R12). -/
def execLnkPrbsRead (n : Fin 64) (s : State) : Res := done (s.begin.accessRead (aOf.lanePrbs n.val) (·.rcRead (aOf.lanePrbs n.val)))

/-- LNK_ALM1_READ (R12). -/
def execLnkAlm1Read (n : Fin 64) (s : State) : Res := done (s.begin.accessRead (aOf.laneAlm1 n.val) (·.rcRead (aOf.laneAlm1 n.val)))

/-- TIME_TXQ2_READ (R12). -/
def execTimeTxq2Read (p : Port) (s : State) : Res := done (s.begin.accessRead (aOf.timeTxq2 p.idx) (·.rcRead (aOf.timeTxq2 p.idx)))

/-- CRU_UE_READ (R12). -/
def execCruUeRead (s : State) : Res := done (s.begin.accessRead aOf.cruUe (·.rcRead aOf.cruUe))

/-- TUN_ECC_READ (R12). -/
def execTunEccRead (s : State) : Res := done (s.begin.accessRead aOf.tunEcc (·.rcRead aOf.tunEcc))

/-- MBX_CNT_READ (R12). -/
def execMbxCntRead (d : Fin 4) (s : State) : Res := done (s.begin.accessRead (aOf.mbxCnt d.val) (·.rcRead (aOf.mbxCnt d.val)))

/-- PWR_DONE_READ (R12). -/
def execPwrDoneRead (s : State) : Res := done (s.begin.accessRead aOf.pwrDone (·.rcRead aOf.pwrDone))

/-- NVC_STAT_READ (R12). -/
def execNvcStatRead (s : State) : Res := done (s.begin.accessRead aOf.nvcStat (·.rcRead aOf.nvcStat))

/-- NVC_WEAR_READ (R12). -/
def execNvcWearRead (s : State) : Res := done (s.begin.accessRead aOf.nvcWear (·.rcRead aOf.nvcWear))

/-- NVC_ECC_READ (R12). -/
def execNvcEccRead (s : State) : Res := done (s.begin.accessRead aOf.nvcEcc (·.rcRead aOf.nvcEcc))

end Sys2Proof.Machine
end

