-- ==== Sys2Proof/Machine/Pwr.lean ====
section
/-! DEFINITION. Power: domains switching on and off with retention (R264 to R269, R276, R277), DMA transfers (R267),
requests (R270 to R273), power fail (R279, R280), resets and test mode (R299, R303, R317, R329, R330), and the
commands of that family. -/

namespace Sys2Proof.Machine

open Sys2Proof

/-! ### Retention (R277) -/

/-- The domain whose register block holds an address; TMP tables are skipped (R124). -/
def retDomain (p : Part) (a : Nat) : Option Nat :=
  if 0x400A1000 ≤ a ∧ a < 0x400B0000 then none else (blockOf p a).map (·.1)

/-- The used entries of PWR_RET that name a register of domain `d`: entry number and address. -/
def State.retEntries (s : State) (d : Nat) : List (Nat × Nat) :=
  (List.range (min (s.f aOf.pwrCtrl 16 11) 1024)).filterMap (fun i =>
    let e := s.rd (aOf.pwrRet i)
    let a := e.toNat / 4 * 4
    if bitOf e 0 && retDomain s.part a == some d then some (i, a) else none)

/-- The registers of a domain that leaves DRAINING are saved, at byte 8i of the retention memory. -/
def State.saveRet (s : State) (d : Nat) : State :=
  let m := (s.retEntries d).foldl (fun m e =>
    putBytes zeroInit m (8 * e.1) (leBytes (BitVec.ofNat 32 e.2) ++ leBytes (s.regView e.2))) s.pwr.retMem
  { s with pwr := { s.pwr with retMem := m } }

/-- On switch-on the saved values are written back in entry order. -/
def State.restoreRet (s : State) (d : Nat) : State :=
  let m := s.pwr.retMem
  let word (a : Nat) : Word := BitVec.ofNat 32 (leNat (getBytes zeroInit m a 4))
  (s.retEntries d).foldl (fun s e =>
    s.when (decide ((word (8 * e.1)).toNat = e.2)) (fun s => s.access e.2 (·.regWrite .fettler e.2 (word (8 * e.1 + 4))))) s

/-! ### Switching off -/

/-- The registers of a domain's blocks return to their reset values. -/
def State.clearRegs (s : State) (d : Nat) : State :=
  { s with regs := tclear (fun a => (blockOf s.part a).map (·.1) == some d) s.regs }

/-- What PD_CTRL loses: time, events, sensors, the Tundish, both cores; firmware keeps what stands in retention
memory. -/
def State.loseCtrl (s : State) : State :=
  { s with
      time := TimeBase.reset, tun := Tundish.reset, cal := Sensors.reset
      cpu := { s.cpu with tcm := [], core0 := .reset, core1 := .reset, handover := none, takeover := false, stagedOk := [], kick0 := 0, kick1 := 0 }
      fw := { Firmware.reset with logLost := s.fw.logLost, servo := { Servo.reset with baseNs := s.fw.servo.baseNs } } }

/-- What PD_PIPE loses. Shadow slots of pours in flight return to the pool; requests that waited for an injected
pour are answered as for a pour that a flush ended (R83, R239). -/
def State.losePipe (s : State) : State :=
  let held := !s.pour.flight.isEmpty || !s.pour.results.isEmpty
  let mine := (s.pour.flight.filter (fun p => p.key.injected)).map (fun p => p.key.id) ++ s.fw.loads.map (fun l => BitVec.ofNat 16 l.id)
  let s := s.pour.flight.foldl (fun s p => s.freePour p) s
  let s := { s with
      pour := { PourEngine.reset s.part.slots with fresh := s.pour.fresh, recycled := s.pour.recycled, lostPending := s.pour.lostPending || held }
      beam := { Beam.reset with plane := s.beam.plane }
      pipe := Pipeline.reset, temper := Temper.reset, link := Link.reset
      fw := { s.fw with loads := [], darkSlices := [] } }
  s.when s.fwRuns (fun s => mine.foldl (fun s id => s.injectedEnded id 6 0#32) s)

/-- What a lane domain loses: each of its lanes is OFF. -/
def State.loseLanes (s : State) (d : Nat) : State :=
  (List.range 64).foldl (fun s n =>
    s.when (pdLane n == d && s.laneState n != lnOff) (fun s =>
      let wasUp := s.laneState n == lnUp
      let s := (s.setLane n Lane.reset).toLane n lnOff
      if wasUp then s.lostLane n else s.progressAt n)) s

/-- A domain is isolated and switched off. -/
def State.powerOff (s : State) (d : Nat) : State :=
  let s :=
    if d = 1 then s.loseCtrl
    else if d = 2 then s.setHostPort .p0 HostPort.reset
    else if d = 3 then s.setHostPort .p1 HostPort.reset
    else if d = 4 then s.losePipe
    else if d = 5 then
      { s with cru := Crucible.reset, pour := { PourEngine.reset s.part.slots with lostPending := s.pour.lostPending } }.setBit aOf.pwrCtrl 1 false
    else if d = 10 then { s with seg := Segment.reset, beam := { s.beam with plane := [] } }
    else s.loseLanes d
  (s.clearRegs d).setDstate d 0

/-- A wake of R276: its sources are recorded and PD_CTRL with the host ports is voted for. -/
def State.wakeUp (s : State) : State :=
  let bit (w : WakeSource) : Nat := match w with | .wakePin => 1 | .hwake .p0 => 2 | .hwake .p1 => 3 | .timer => 4
  let s := s.pwr.wakePending.foldl (fun s w => s.setBit aOf.pwrWakeSrc (bit w) true) s
  (([1, 2, 3].foldl (fun s d => s.mark d 3 true) s)).settlePower

/-- A domain leaves DRAINING (R268, R269, R277): saved, then off or in retention; a wake that waited for PD_CTRL acts. -/
def State.leaveDrain (s : State) (d : Nat) : State :=
  let s := s.when (d == 1 || d == 4) (·.saveRet d)
  let s := if d = 5 ∧ s.bit aOf.pwrCtrl 0 then s.setDstate 5 4 else s.powerOff d
  let s := s.settlePower
  let s := s.when (d == 4) (·.voteRestart)
  s.when (d == 1 && !s.pwr.wakePending.isEmpty) (·.wakeUp)

/-! ### Switching on -/

/-- PD_CTRL is ON (R206, R210, R276): the March has run over the Tundish, with results the manual leaves open; both
cores were reset and start in the Boot ROM. -/
def State.ctrlOn (s : State) : State :=
  let n := s.free
  let s := (List.range 4).foldl (fun s j => s.wr (aOf.tunBad j) (Config.measured (n + j))) { s with free := n + 4 }
  let fail := (List.range 4).any (fun j => s.rd (aOf.tunBad j) != 0#32)
  let s := s.restoreRet 1
  let s := (((s.setBit aOf.sysRole 0 false).setBit aOf.sysRole 9 false).resetCore .cp0).resetCore .cp1
  let s := (s.nextGen 1).showBoot
  let s := ((s.setStage 1).setBit aOf.sysBoot 7 fail).setStage 2
  let woken := !s.pwr.wakePending.isEmpty
  let s := { s with pwr := { s.pwr with wakePending := [], hibernating := false }, cpu := { s.cpu with bootSlot := s.preferred } }
  s.when woken (·.raise 14)

/-- Firmware writes the registers of a domain that the configuration record holds. -/
def State.configRegs (s : State) (d : Nat) : State :=
  s.fw.items.regs.foldl (fun s r =>
    s.when ((blockOf s.part r.1).map (·.1) == some d) (fun s => s.access r.1 (·.regWrite s.active.master r.1 r.2))) s

/-- PD_PIPE is ON at the OP target, whose voltage was set first (R272); retained registers return (R277); pours lost with
the domain are told by event 129 (R83); firmware brings the light up (R29, R245, R300). -/
def State.pipeOn (s : State) : State :=
  let op := s.f aOf.pwrState 6 2
  let s := s.setOp op
  let s := s.restoreRet 4
  let s := s.when (s.pour.lostPending && s.fwRuns) (·.raise 129)
  let s := { s with pour := { s.pour with lostPending := false } }
  s.when s.fwRuns (fun s =>
    let s := s.configRegs 4
    match s.fw.leaving with
    | some t => s.lightUp t
    | none => s.when (s.fw.lamp != .off) (fun s => s.lightUp s.fw.lamp))

/-- A domain's switch-on ends. -/
def State.domainUp (s : State) (d : Nat) : State :=
  let s := s.setDstate d 2
  let s :=
    if d = 1 then s.ctrlOn
    else if d = 4 then s.pipeOn
    else if d = 5 then s.when (s.fwRuns && !s.domOn pdPipe) (fun s => s.restoreMap.configRegs 5)
    else if d = 10 then s.when s.fwRuns (fun s => (s.configRegs 10).segFor s.fw.lamp)
    else if 6 ≤ d ∧ d ≤ 9 then s.when s.fwRuns (fun s =>
      (s.configRegs d).when (s.fw.leaving.isSome || s.fw.lamp != .off) (·.enableLanes))
    else s
  s.settlePower

/-! ### Commands: votes and domains -/

/-- VOTE_WRITE (R266). -/
def execVoteWrite (d : Fin 12) (v : Word) (s : State) : Res := done (s.begin.access (aOf.pwrVote d.val) (·.voteOp d.val v))

/-- The switch-on of PD_PIPE waits for its voltage (R272). -/
def State.voltWaits (s : State) (d : Nat) : Bool := d == pdPipe && (match s.pwr.avsJob with | some j => j.up | none => false)

/-- DOMAIN_ON (R264, R272). -/
def execDomainOn (d : Fin 12) (s : State) : Res :=
  let s := s.begin
  done (s.when (s.alive && s.dstate d.val == 1 && s.domOn (domParent d.val) && !s.voltWaits d.val) (·.domainUp d.val))

/-- DRAIN_END (R268, R269, R277). -/
def execDrainEnd (d : Fin 12) (s : State) : Res :=
  let s := s.begin
  done (s.when (s.alive && s.dstate d.val == 3 && s.mayLeave d.val) (·.leaveDrain d.val))

/-- DRAIN_TIMEOUT (R268): transactions still open end with DOMAIN_OFF; FORCED and event 9. -/
def execDrainTimeout (d : Fin 12) (s : State) : Res :=
  let s := s.begin
  done (s.when (s.alive && s.dstate d.val == 3 && s.mayLeave d.val) (fun s =>
    (((s.emit .domainOff).setBit (aOf.pwrVote d.val) 27 true).raise 9).leaveDrain d.val))

/-! ### DMA (R267, R287) -/

/-- A transfer may start at an address: its domain is ON, or it lies among the registers of an absent unit, which answer
whatever the domain (R5, R30). -/
def State.addrOn (s : State) (a : Nat) : Bool :=
  (match blockOf s.part a with | some (_, absent) => absent || absentReg s.part (a / 4 * 4) | none => false) ||
  (match domOfAddr s.part a with | some d => s.domOn d | none => false)

/-- DMA_TRANSFER (R267). -/
def execDmaTransfer (t : DmaDesc) (s : State) : Res :=
  let s := s.begin
  if !s.alive || !s.domOn pdCtrl || s.pwr.dma.isSome then done s
  else if (domOfAddr s.part t.src).isNone || (domOfAddr s.part t.dst).isNone then done (s.emit .busError)
  else if s.addrOn t.src && s.addrOn t.dst then done ({ s with pwr := { s.pwr with dma := some t } }.implicit)
  else done (s.emit .domainOff)

/-- What SECDED finds in the 8-byte group of an address that a transfer reads (R194, R287). -/
def State.dmaMark (s : State) (a : Nat) (e : EccResult) : State :=
  if 0x30000000 ≤ a ∧ a < 0x30100000 then s.nvMark (a - 0x30000000) e
  else if 0x20000000 ≤ a ∧ a < 0x20000000 + s.part.cruSize then
    let w := (a - 0x20000000) / 8
    match e with
    | .clean => s
    | .corrected => s.noteCorrected w 72
    | .uncorrectable => s.poisonWord w
  else s

/-- The words of a transfer, until one of them fails: an uncorrectable group stops it there, with nothing written for it or after
it. -/
def State.dmaCopy (s : State) (t : DmaDesc) (i : Nat) : Nat → State
  | 0 => s
  | n + 1 =>
    let a := t.src + 4 * i
    let s := (t.faults.filter (fun f => (t.src + f.1) / 8 == a / 8 && (a % 8 == 0 || i == 0))).foldl (fun s f => s.dmaMark a f.2) s
    let r := ({ s with out := [] }).busRead .dma a
    match r.busData with
    | none => r
    | some v =>
      let w := ({ r with out := [] }).busWrite .dma (t.dst + 4 * i) v
      if w.busFailed then w else State.dmaCopy w t (i + 1) n

/-- DMA_TRANSFER_END (R267, R287). -/
def execDmaTransferEnd (s : State) : Res :=
  let s := s.begin
  match s.pwr.dma with
  | none => done s
  | some t => done (s.when s.alive (fun s =>
      let s := s.dmaCopy t 0 (t.len / 4)
      ({ s with pwr := { s.pwr with dma := none } }).implicit))

/-! ### Requests and operating points (R270 to R273) -/

/-- PWR_REQ_STATE (R270): the active core's request of a device state. -/
def execPwrReqState (m : Master) (client target : Nat) (s : State) : Res :=
  done (s.begin.access aOf.pwrReq (fun s => s.when (m == s.active.master) (·.request 1 client target)))

/-- PWR_REQ_OP (R270): the active core's request of an operating point. -/
def execPwrReqOp (m : Master) (client target : Nat) (s : State) : Res :=
  done (s.begin.access aOf.pwrReq (fun s => s.when (m == s.active.master) (·.request 2 client target)))

/-- REQUEST_START (R271). -/
def execRequestStart (s : State) : Res :=
  let s := s.begin
  done (s.when s.alive (·.startPending))

/-- OP_SWITCH (R272). -/
def execOpSwitch (s : State) : Res :=
  let s := s.begin
  done (s.when (s.alive && s.domOn pdPipe) (·.switchOp))

/-- PLL_PREPARE_END (R272): the prepared switch waits for its edge. -/
def execPllPrepareEnd (s : State) : Res :=
  let s := s.begin
  match s.pwr.trans with
  | some t => done (s.when (s.alive && t.stage == .pll) (fun s => { s with pwr := { s.pwr with trans := some { t with stage := .edge } } }))
  | none => done s

/-- AVS_TRANSACTION_END (R273). -/
def execAvsTransactionEnd (acked : Bool) (s : State) : Res :=
  let s := s.begin
  done (s.when s.alive (·.avsEnded acked))

/-- AVS_SETTLE_END (R272). -/
def execAvsSettleEnd (s : State) : Res :=
  let s := s.begin
  done (s.when s.alive (·.avsSettled))

/-- POWER_DONE_POP (R270). -/
def execPowerDonePop (s : State) : Res := done (s.begin.access aOf.pwrDone (·.popDone))

/-! ### Wake (R276) -/

/-- A wake source is armed. -/
def State.armed (s : State) (w : WakeSource) : Bool :=
  s.pwr.hibernating && (match w with
    | .wakePin => s.bit aOf.pwrCtrl 4
    | .hwake .p0 => s.bit aOf.pwrCtrl 5
    | .hwake .p1 => s.bit aOf.pwrCtrl 6 && s.part.hasPort1
    | .timer => s.f aOf.pwrWtimer 0 24 != 0 && s.dstate pdCtrl == 0)

/-- WAKE (R276): at once where PD_CTRL is OFF, else as soon as it is. -/
def execWake (src : WakeSource) (s : State) : Res :=
  let s := s.begin
  done (s.when (s.alive && s.armed src && !s.pwr.wakePending.contains src && s.dstate pdCtrl != 1) (fun s =>
    let s := { s with pwr := { s.pwr with wakePending := s.pwr.wakePending ++ [src] } }
    s.when (s.dstate pdCtrl == 0) (·.wakeUp)))

/-! ### Power fail (R279, R280, R284, R291) -/

/-- The power-fail save starts. -/
def State.pfailSave (s : State) : State :=
  let lost := s.nv.queue.length - 1
  let s := match s.nv.queue with | (a, bs) :: _ => s.nvPut a bs | [] => s
  let s := ({ s with nv := { s.nv with queue := [] } }).showQueue
  let s := (s.setBit aOf.nvcStat 3 true).when (decide (0 < lost)) (fun s => (s.bump aOf.nvcStat 24 8 lost).raise 839)
  let s := s.when s.nv.wear (fun s =>
    let s := (({ s with nv := { s.nv with wear := false } }).setBit aOf.nvcWear 30 false).setBit aOf.nvcWear 29 true
    s.answerWhere (fun r => match r.wait with | .nvSave _ => true | _ => false) stFault (fun _ _ => []))
  let s := ({ s with pwr := { s.pwr with saving := true } }).setBit aOf.pwrPfstat 0 true
  s.implicit.raise 10

/-- PFAIL (R279): one save for each assertion; none while one runs. -/
def execPfail (s : State) : Res :=
  let s := s.begin
  done (s.when (s.alive && !s.pins.pfailLow) (fun s =>
    let s := { s with pins := { s.pins with pfailLow := true } }
    s.when (!s.pwr.saving) (·.pfailSave)))

/-- What the power-fail save writes: the log tail, the operating hours, and the wear copy where WEAR_VALID stands and
PD_CRU is ON. How long it took is an open value. -/
def State.pfailWrite (s : State) : State :=
  let s := s.logFlush.saveHours
  let (s, wear) := if s.bit aOf.pwrCtrl 1 && s.domOn pdCru then s.saveWear 0 else (s, false)
  let s := ((s.setBit aOf.pwrPfstat 2 wear).setBit aOf.pwrPfstat 3 (wear && s.bit aOf.nvcWear 0)).setBit aOf.pwrPfstat 1 true
  (s.setF aOf.pwrPfstat 16 16 (Config.duration s.free).toNat).drawn

/-- The save waits for a PD_CRU that it brings ON from RET for the wear copy (R279). -/
def State.saveWaits (s : State) : Bool := s.bit aOf.pwrCtrl 1 && (s.dstate pdCru == 1 || s.dstate pdCru == 4)

/-- PFAIL_SAVED (R279). -/
def execPfailSaved (s : State) : Res :=
  let s := s.begin
  done (s.when (s.alive && s.pwr.saving && !s.saveWaits) (fun s =>
    let s := s.pfailWrite.setBit aOf.pwrPfstat 0 false
    let s := s.when (!s.pins.pfailLow) (·.setBit aOf.nvcStat 3 false)
    (({ s with pwr := { s.pwr with saving := false } }).implicit).raise 11))

/-- PFAIL_CLEARED (R280). -/
def execPfailCleared (s : State) : Res :=
  let s := s.begin
  done (s.when (s.alive && s.pins.pfailLow) (fun s =>
    let s := ({ s with pins := { s.pins with pfailLow := false } }).raise 12
    s.when (!s.pwr.saving) (·.setBit aOf.nvcStat 3 false)))

/-! ### Outputs of switched domains (R278) -/

/-- The domain that drives an output. -/
def pinDomain : PinGroup → Nat
  | .htx p | .mdio p => pdHost p
  | .xspi | .tdo => pdCtrl
  | .dtx n => pdLane n
  | .com | .seg | .pump => pdSeg

/-- An output floats: its domain is not ON (Table 12-8). -/
def State.floats (s : State) (g : PinGroup) : Bool := !s.domOn (pinDomain g)

/-- The unit that drives an output is absent (R314). -/
def pinAbsent (p : Part) : PinGroup → Bool
  | .htx q | .mdio q => !p.hasPort q
  | .dtx n => decide (p.lanes ≤ n)
  | .com | .seg | .pump => !p.hasSeg
  | _ => false

/-- What a lane's transmitter sends in its state (Table 06-9). -/
def lanePin (st : Nat) : PinState :=
  if st = lnTrain then .syn else if st = lnUp then .driven else if st = lnTest then .prbs else if st = lnFailed then .idl else .idle

/-- What an output shows (R314, R315): high impedance with PORST_N low, with TESTMODE high and on absent units. -/
def State.pin (s : State) (g : PinGroup) : PinState :=
  if !s.alive || pinAbsent s.part g then .highZ
  else if s.floats g then .floating
  else match g with
    | .dtx n => lanePin (s.laneState n)
    | .tdo => if s.jtagOpen then .driven else .highZ
    | .com | .seg => if s.bit aOf.segStat 1 then .zeroVolt else .driven
    | .mdio _ => .highZ
    | _ => .driven

/-- XSPI_RST_N is low: from PD_CTRL ON until CP0 leaves reset (Table 15-5). -/
def State.xspiReset (s : State) : Bool := s.domOn pdCtrl && s.core .cp0 == .reset

/-! ### Resets -/

/-- A power-fail save that reset cuts short has written a number of its units that nothing fixes, in their order: the log tail, the
hours with their header, the wear counters. The copy it was writing stays invalid (R331; DESIGN CHOICE,
assumption 121). -/
def State.cutSave (s : State) : State :=
  let tail := s.tailCount
  let wear := s.bit aOf.pwrCtrl 1 && s.domOn pdCru && !s.bpCovers (recBody 4 s.wearCopy)
  let u := (Config.duration s.free).toNat % (tail + 2 + (if wear then 8193 else 0))
  let s := s.drawn
  let s := if s.nvProtected 0x40000 then s
    else (List.range (min u tail)).foldl (fun t i => t.logAppendOne (s.tailRecord i)) s
  let s := s.when (decide (tail + 2 ≤ u)) (·.saveHours)
  s.when wear (fun s => s.nvPut (recBody 4 s.wearCopy) (s.wearCounters 0 (8 * (u - (tail + 2)))))

/-- The NV array completes the unit whose write has begun, and writes no other; a save is cut short (R331). -/
def State.cutNv (s : State) : State :=
  let s := match s.nv.queue with | (a, bs) :: _ => s.nvPut a bs | [] => s
  s.when s.pwr.saving (·.cutSave)

/-- The device with PORST_N low: OFF, both cores held. -/
def State.assertPorst (s : State) : State :=
  let s := s.cutNv
  { s.setF aOf.pwrState 0 3 0 with
      pins := { s.pins with porstLow := true }
      cpu := { s.cpu with core0 := .reset, core1 := .reset } }

/-- PORST_ASSERT (R329). -/
def execPorstAssert (s : State) : Res := done (s.begin.when s.alive (·.assertPorst))

/-- SUPPLY_MONITOR_TRIP (R330): as though PORST_N were low. -/
def execSupplyMonitorTrip (_rail : Rail) (s : State) : Res := done (s.begin.when s.alive (·.assertPorst))

/-- POWER_ON_RESET (R206, R299, R316, R317): everything at its reset value, the new straps; fuses, NV array and flash
keep what they hold; the March marks the blocks that failed. -/
def execPowerOnReset (straps : Straps) (marchFail : List Nat) (s : State) : Res :=
  let bad := (List.range 128).filter (fun b => marchFail.contains b)
  let s := s.when s.alive (·.cutNv)
  let t : State := { State.reset with
    pending := s.pending, free := s.free
    fuses := { s.fuses with straps := straps }
    pins := { porstLow := false, hostrstLow := s.pins.hostrstLow, pfailLow := s.pins.pfailLow, testmode := false }
    pour := PourEngine.reset s.fuses.part.slots
    nv := { Nv.reset with cells := s.nv.cells, bad := s.nv.bad, weak := s.nv.weak }
    cpu := { Cpu.reset with flash := s.cpu.flash } }
  let t := bad.foldl (fun t b => (t.setBit (aOf.tunBad (b / 32)) (b % 32) true).marchFill b false) t
  let t := { t with cpu := { t.cpu with bootSlot := t.preferred } }
  let t := ((t.showBoot.setStage 1).setBit aOf.sysBoot 7 (!bad.isEmpty)).setStage 2
  done (t.when t.pins.hostrstLow (fun t =>
    { t with cpu := { t.cpu with core0 := .reset, core1 := .reset }, port0 := { t.port0 with inReset := true }
             port1 := { t.port1 with inReset := true } }))

/-- Both cores and both host ports are reset by HOSTRST_N. -/
def State.hostResetOp (s : State) : State :=
  let s := s.when s.cpu.handover.isSome (fun s => ({ s with cpu := { s.cpu with handover := none } }).raise 4)
  let s := (((s.resetCore .cp0).resetCore .cp1).nextGen 1).fwStop.setBit aOf.sysRole 9 false
  let s := { s with cpu := { s.cpu with core0 := .reset, core1 := .reset, takeover := false, bootSlot := s.preferred } }
  s.setStage 0

/-- HOST_RESET (R303). -/
def execHostReset (s : State) : Res :=
  let s := s.begin
  done (s.when (s.alive && !s.pins.hostrstLow) (fun s =>
    let held : HostPort := { HostPort.reset with inReset := true }
    let s := { s with pins := { s.pins with hostrstLow := true }, port0 := held, port1 := held }
    s.hostResetOp))

/-- HOST_RESET_RELEASE (R303): stream silence counts from here. -/
def execHostResetRelease (s : State) : Res :=
  let s := s.begin
  done (s.when (s.alive && s.pins.hostrstLow) (fun s =>
    let s := { s with pins := { s.pins with hostrstLow := false }, port0 := { s.port0 with inReset := false }
                      port1 := { s.port1 with inReset := false } }
    s.when (s.domOn pdCtrl) (fun s =>
      { s.setStage 2 with
          cpu := { s.cpu with core0 := .rom, core1 := .rom }
          fw := { s.fw with silenceFrom := s.extNs } })))

/-- TESTMODE_ENTRY (R317): both cores are held in reset and nothing acts until a PORST_N pulse. -/
def execTestmodeEntry (s : State) : Res :=
  let s := s.begin
  done { s with pins := { s.pins with testmode := true }, cpu := { s.cpu with core0 := .reset, core1 := .reset } }

end Sys2Proof.Machine
end

