-- ==== Sys2Proof/Machine/Servo.lean ====
section
/-! DEFINITION. The gPTP servo in firmware (R174, R177 to R180), the alignment of frame edges to the grid (R183, R302)
and the commands of that family. -/

namespace Sys2Proof.Machine

open Sys2Proof

/-! ### Stamps -/

/-- A MAC stamp as a local extended time without `base_ns`, in 1/256 ns. -/
def State.ext256 (s : State) (t : BitVec 40) : Int :=
  s.extNs * 256 + sx 40 (t - BitVec.ofNat 40 (s.time.ns.toNat * 256)).toNat

/-- The receive stamp of a gPTP frame on port `p`: what the port's classifier queued with the oldest such frame, else the
present one (R178); RXLAT is taken off, and `asym` takes TIME_ASYM off too. As a local extended time in 1/256 ns. -/
def State.rxStamp (s : State) (p : Port) (asym : Bool) : State × Int :=
  let raw := match (s.hostPort p).gptp with
    | e :: _ => e.2
    | [] => s.macStamp
  let s := s.drawn.setHostPort p { s.hostPort p with gptp := (s.hostPort p).gptp.drop 1 }
  let lat : Int := s.f (aOf.timeLat p.idx) 0 16
  let a : Int := if asym then sx 32 (s.rd (aOf.timeAsym p.idx)).toNat else 0
  (s, s.ext256 raw - 256 * (lat + a))

/-- The mean link delay of a port. -/
def State.linkDelay (s : State) : Port → Nat
  | .p0 => s.fw.servo.delay0
  | .p1 => s.fw.servo.delay1

/-- Replace the servo. -/
def State.setServo (s : State) (v : Servo) : State := { s with fw := { s.fw with servo := v } }

/-- A gPTP message is counted and has no other effect (R177). -/
def State.countGptp (s : State) : State := s.setServo { s.fw.servo with counted := s.fw.servo.counted + 1 }

/-- Firmware can take gPTP messages of a port. -/
def State.gptpOn (s : State) (p : Port) : Bool :=
  s.fwRuns && s.part.hasPort p && !(s.hostPort p).inReset

/-! ### Offsets and states -/

/-- The integer square root, from bit 31 down. -/
def isqrt (n : Nat) : Nat :=
  (List.range 32).foldl (fun r i => let c := r + 2 ^ (31 - i); if c * c ≤ n then c else r) 0

/-- The RMS of the offsets of the last 16 Sync intervals. -/
def rmsOf (l : List Int) : Nat := if l.isEmpty then 0 else isqrt ((l.map (fun o => o.natAbs * o.natAbs)).sum / l.length)

/-- The servo enters holdover (R180): e0 is the RMS of the intervals before. -/
def State.holdover (s : State) : State :=
  let v := s.fw.servo
  if s.servoState = 2 then s.setServo { v with state := 3, ending := false, e0 := rmsOf v.offsets }
  else if v.state = 1 then s.setServo { v with state := 3, ending := false, e0 := rmsOf v.offsets }
  else s.setServo { v with ending := false }

/-- The offset o = grandmaster time − local time has been measured (R174, R302). Before the alignment of a boot it is only
kept. Beyond THR it is a suspected re-route: TIME_ADJ takes it, which caps the slew. Within THR it is slewed too, and
the rate is corrected by a law the manual does not give. -/
def State.measured (s : State) (o : Int) : State :=
  let v := s.fw.servo
  let v := { v with offset := o, offsets := (o :: v.offsets).take 16 }
  if !v.aligned then s.setServo { v with state := if v.state = 0 then 1 else v.state }
  else
    let big := decide (s.f aOf.timeStepthr 0 24 < o.natAbs)
    let state := if s.servoState = 2 then 2 else if big then max v.state 1 else 2
    let s := s.setServo { v with state := state, ending := big && state != 2, reroute := if big then o else v.reroute }
    let s := s.timeAdjOp (BitVec.ofInt 32 o)
    if big then s else (s.wr aOf.timeRate (Config.measured s.free)).drawn

/-! ### The grid (R183, R302) -/

/-- The time of this instant as firmware extends it (R171). -/
def State.nowExt (s : State) : Int := s.fw.servo.baseNs + s.extNs

/-- The period a grid start writes: the grid's, unless it is inadmissible at the operating point in force, where the step's
period applies (R182). -/
def State.gridPeriod (s : State) (p : Nat) : Nat :=
  if s.domOn pdPipe && !s.admissible s.beam.setB (clampPeriod p) s.op then
    (if s.bit aOf.tmpStat 5 then s.f aOf.tmpShed 0 21 else s.f aOf.tmpFallback 0 21) * 10
  else p

/-- Epoch, period and first frame are written while edges are off, and edges start. -/
def State.gridStart (s : State) (epoch : Int) (period first : Nat) : State :=
  let s := s.wr aOf.timeEpoch (BitVec.ofInt 32 epoch)
  let s := (s.setF aOf.timePeriod 0 25 period).wr aOf.timeFstart (BitVec.ofNat 32 first)
  s.edgesOn

/-- TIME_NS shows the extended time modulo 2^32, as the formula of R183 for TIME_EPOCH takes it: where `base_ns` is no multiple
of 2^32 (after an alignment without a grid), firmware writes TIME_SET and rebases `base_ns` as in step 2 of R302. -/
def State.rebase (s : State) : State :=
  if s.fw.servo.baseNs % 2 ^ 32 = 0 then s else s.timeSetOp (BitVec.ofInt 32 s.nowExt)

/-- A lamp joins a grid (R183): frame k0, with one spare frame for the write. -/
def State.joinGrid (s : State) (epoch : Int) (period : Nat) : State :=
  let s := s.edgesOff.rebase
  let p := s.gridPeriod period
  let k0 := (s.nowExt - epoch + p - 1) / p + 1
  s.gridStart epoch p k0.toNat

/-- The alignment at the first lock of a boot (R302). Without a grid only `base_ns` is rebased. -/
def State.alignOp (s : State) (offset : Int) : State :=
  let x := s.nowExt + offset
  let lock (s : State) : State :=
    s.setServo { s.fw.servo with baseNs := x - s.extNs, aligned := true, state := 2, ending := false, offset := 0, offsets := [] }
  match s.fw.items.grid with
  | none => lock s
  | some (e, p) =>
    let s := (s.edgesOff).timeSetOp (BitVec.ofInt 32 x)
    let s := lock s
    let p := s.gridPeriod p
    s.gridStart e p ((x - e) / p).toNat

/-! ### Commands -/

/-- SYNC (R177, R178): two-step, from the grandmaster and port selected. -/
def execSyncMsg (p : Port) (m : GptpMsg) (s : State) : Res :=
  let s := s.begin
  done (s.when (s.gptpOn p) (fun s =>
    let (s, t) := s.rxStamp p true
    let v := s.fw.servo
    if m.domain ≠ 0#8 ∨ ¬ m.twoStep then s.countGptp
    else s.when (v.best.isSome && v.port == p && v.gm == m.gm) (fun s =>
      s.setServo { v with syncStamp := some (m.seqId, t), lastSyncNs := s.extNs })))

/-- FOLLOW_UP (R174, R177, R180). -/
def execFollowUp (p : Port) (m : GptpMsg) (s : State) : Res :=
  let s := s.begin
  done (s.when (s.gptpOn p) (fun s =>
    let s := (s.rxStamp p false).1
    let v := s.fw.servo
    if m.domain ≠ 0#8 then s.countGptp
    else match v.syncStamp with
      | none => s
      | some (q, t) =>
        s.when (v.best.isSome && v.port == p && v.gm == m.gm && q == m.seqId) (fun s =>
          (s.setServo { v with syncStamp := none }).measured
          (roundEven (256 * ((m.originNs : Int) + s.linkDelay p - v.baseNs) - t) 256))))

/-- A grandmaster is selected: a new identity or port puts the servo into holdover; from free run it acquires. -/
def State.selectGm (s : State) (p : Port) (m : GptpMsg) : State :=
  let changed := decide (s.fw.servo.gm ≠ m.gm) || decide (s.fw.servo.port ≠ p)
  let s := s.when changed (·.holdover)
  let v := s.fw.servo
  s.setServo { v with
    best := some (m.priority, m.gm, p), gm := m.gm, port := p, state := if v.state = 0 then 1 else v.state
    syncStamp := if changed then none else v.syncStamp }

/-- ANNOUNCE (R177): the lower priority vector wins, then the lower identity; the selected source renews its own. -/
def execAnnounce (p : Port) (m : GptpMsg) (s : State) : Res :=
  let s := s.begin
  done (s.when (s.gptpOn p) (fun s =>
    let s := (s.rxStamp p false).1
    if m.domain ≠ 0#8 then s.countGptp
    else match s.fw.servo.best with
      | none => s.selectGm p m
      | some (pr, g, q) =>
        let better := decide (m.priority.toNat < pr.toNat) || (m.priority == pr && decide (m.gm.toNat < g.toNat))
        s.when (better || (decide (q = p) && g == m.gm)) (·.selectGm p m)))

/-- Firmware reads the transmit stamps of a port's queue (R179). -/
def State.readTxq (s : State) (p : Port) : State :=
  (s.setServo { s.fw.servo with stamps := s.fw.servo.stamps ++ (s.txq p).map (fun e => (p, e)) }).setTxq p []

/-- Firmware looks for the stamp of an event message among those it has read, and forgets it with those before it on its
port. -/
def State.stampFor (s : State) (p : Port) (tag : BitVec 16) : State × Option TxStamp :=
  let s := s.readTxq p
  let mine := s.fw.servo.stamps.filter (fun e => decide (e.1 = p))
  match mine.find? (fun e => e.2.tag == tag) with
  | none => (s, none)
  | some e =>
    let rest := (mine.dropWhile (fun d => d.2.tag != tag)).drop 1
    (s.setServo { s.fw.servo with stamps := s.fw.servo.stamps.filter (fun e => !decide (e.1 = p)) ++ rest }, some e.2)

/-- A queued transmit stamp as a local extended time in 1/256 ns. -/
def State.txTime (s : State) (e : TxStamp) : Int := s.ext256 (e.ns ++ e.frac)

/-- PDELAY_REQ (R177, R178): firmware responds with the receipt time t2, in 1/256 ns of its extended time; the response is an
event message, whose stamp t3 its follow-up carries unless the stamp was lost on a full queue. -/
def execPdelayReq (p : Port) (m : GptpMsg) (s : State) : Res :=
  let s := s.begin
  done (s.when (s.gptpOn p) (fun s =>
    let (s, t2) := s.rxStamp p false
    if m.domain ≠ 0#8 then s.countGptp
    else
      let base := s.fw.servo.baseNs * 256
      let tag : GptpTag := ⟨3#4, m.seqId.setWidth 12⟩
      let (s, e) := ((s.emit (.pdelayResp p m.seqId (base + t2))).txStamp p tag).stampFor p (tag.messageType ++ tag.seqId)
      match e with
      | some e => s.emit (.pdelayRespFollowUp p m.seqId (base + s.txTime e))
      | none => s))

/-- PDELAY_RESP (R177, R179): firmware looks for the transmit stamp of its request and keeps t2 + (t4 − t1). -/
def execPdelayResp (p : Port) (m : GptpMsg) (s : State) : Res :=
  let s := s.begin
  done (s.when (s.gptpOn p) (fun s =>
    let (s, t4) := s.rxStamp p false
    if m.domain ≠ 0#8 then s.countGptp
    else
      let tag : BitVec 16 := (2#4 : BitVec 4) ++ (m.seqId.setWidth 12 : BitVec 12)
      match s.stampFor p tag with
      | (s, none) => s
      | (s, some e) =>
        let v := s.fw.servo
        s.setServo { v with pdelay := (p, m.seqId, 256 * (m.originNs : Int) + t4 - s.txTime e) :: v.pdelay.filter (fun d => decide (d.1 ≠ p)) }))

/-- PDELAY_RESP_FOLLOW_UP (R177): the link delay is half the round trip less the responder's turnaround. -/
def execPdelayRespFollowUp (p : Port) (m : GptpMsg) (s : State) : Res :=
  let s := s.begin
  done (s.when (s.gptpOn p) (fun s =>
    let s := (s.rxStamp p false).1
    if m.domain ≠ 0#8 then s.countGptp
    else match s.fw.servo.pdelay.find? (fun d => decide (d.1 = p) && d.2.1 == m.seqId) with
      | none => s
      | some (_, _, x) =>
        let d := (roundEven (x - 256 * m.originNs) 512).toNat
        let v := { s.fw.servo with pdelay := s.fw.servo.pdelay.filter (fun d => decide (d.1 ≠ p)) }
        match p with
        | .p0 => s.setServo { v with delay0 := d }
        | .p1 => s.setServo { v with delay1 := d }))

/-- SIGNALING (R177): counted. -/
def execSignaling (p : Port) (_m : GptpMsg) (s : State) : Res :=
  let s := s.begin
  done (s.when (s.gptpOn p) (fun s => (s.rxStamp p false).1.countGptp))

/-- SYNC_RECEIPT_TIMEOUT (R180): any grandmaster may be selected from here. -/
def execSyncReceiptTimeout (s : State) : Res :=
  let s := s.begin
  done (s.when (s.fwRuns && s.fw.servo.best.isSome) (fun s =>
    let s := s.holdover
    s.setServo { s.fw.servo with best := none, syncStamp := none }))

/-- GRID_ALIGN (R302): once in a boot, when the servo first locks. -/
def execGridAlign (offset : Int) (s : State) : Res :=
  let s := s.begin
  done (s.when (s.fwRuns && !s.fw.servo.aligned && s.fw.servo.state != 0) (·.alignOp offset))

end Sys2Proof.Machine
end

