-- ==== Sys2Proof/Machine/Msg.lean ====
section
/-! DEFINITION. Adquel requests (R235 to R243, R253 to R259): reception and its checks, identification, status,
configuration, events, time, calibration, the NV store and the log, with the commands of those messages. -/

namespace Sys2Proof

/-- Payload word `i`, counted from 1; 0 past the end. -/
def Msg.w (q : Msg) (i : Nat) : Word := q.ws.getD (i - 1) 0#32

/-- Length in words, header included. -/
def Msg.len (q : Msg) : Nat := q.ws.length + 1

/-- The request with the field of its word 1 that tells it apart set to a row's own value. -/
def Msg.sel (q : Msg) (lo len v : Nat) : Msg :=
  match q.ws with
  | [] => q
  | w :: r => { q with ws := setFld w lo len v :: r }

end Sys2Proof

namespace Sys2Proof.Machine

open Sys2Proof

/-! ### Reception (R224, R237, R240) -/

/-- A route a message can come by. -/
def State.routeUp (s : State) : Route → Bool
  | .spi => true
  | .port p => s.part.hasPort p && s.domOn (pdHost p) && (s.hostPort p).up && !(s.hostPort p).inReset

/-- A request firmware has taken, and what its reply waits for. -/
def State.hold (s : State) (op : BitVec 8) (q : Msg) (w : ReplyWait) : State :=
  { s with fw := { s.fw with requests := s.fw.requests ++ [{ opcode := op, q := q, wait := w, frameWord := none, stamp := s.fw.arrival }] } }

/-- The first check that fails answers the request; a request that passes them all is acted on. -/
def State.judge (s : State) (op : BitVec 8) (q : Msg) (checks : List (Bool × Nat)) (f : State → State) : State :=
  match checks.find? (·.1) with
  | some c => s.reply op q c.2 0 []
  | none => f s

/-- An opcode of Table 11-2 that a host may send. -/
def listedOp (op : BitVec 8) : Bool :=
  [0x01, 0x02, 0x10, 0x11, 0x20, 0x21, 0x22, 0x23, 0x30, 0x40, 0x41, 0x50, 0x51, 0x60, 0x61, 0x70, 0x71, 0x72, 0x80, 0x81, 0x82,
    0x90, 0xA0, 0xB0, 0xC0].contains op.toNat

/-- Header, generation (R224, R226) and room (R240), then the message's own checks. A header that fails is answered
whatever the generation (R237). -/
def State.takeMsg (s : State) (op : BitVec 8) (q : Msg) (f : State → State) : State :=
  if q.reply || q.rsvd || !listedOp op then s.reply op { q with gen := BitVec.ofNat 4 (s.gen 0) } stInvalid 0 []
  else if q.gen.toNat ≠ s.gen 0 then
    if op = 0x01#8 ∧ q.route ≠ .spi then f (s.hostGen q.gen.toNat)
    else { s with fw := { s.fw with discarded := s.fw.discarded + 1 } }
  else if op ≠ 0x01#8 ∧ 32 ≤ s.fw.requests.length then s.reply op q stBusy 0 []
  else f s

/-- The Boot ROM loader answers for the active core (R213). -/
def State.inRecovery (s : State) : Bool := s.core s.active == .recovery && !s.fw.started

/-- The rank of a route on equal stamps (R24). -/
def routeRank : Route → Nat
  | .port .p0 => 0
  | .port .p1 => 1
  | .spi => 2

/-- A request stamped `t` has reached the device: firmware takes it; in recovery the Boot ROM takes IDENTIFY and FW_STAGE on
the HMB; else it waits, in merge order, until firmware starts (R24). -/
def State.receiveAt (s : State) (t : Word) (op : BitVec 8) (q : Msg) (f : State → State) : State :=
  let s := { s with fw := { s.fw with arrival := t } }
  if s.fw.started then s.takeMsg op q f
  else if s.inRecovery then s.when (decide (q.route = .spi) && (op == 0x01#8 || op == 0x80#8)) (·.takeMsg op q f)
  else { s with fw := { s.fw with inbox := mergeIn (fun m => routeRank m.msg.route) t ⟨op, q⟩ s.fw.inbox } }

/-- A request reaches the device now; its stamp is taken here (R22). -/
def State.receive (s : State) (op : BitVec 8) (q : Msg) (f : State → State) : State :=
  if s.alive && s.domOn pdCtrl && s.routeUp q.route then s.drawn.receiveAt (s.stampOf false) op q f else s

/-- No bit outside a mask is set. -/
def onlyBits (w : Word) (mask : Nat) : Bool := (w &&& ~~~(BitVec.ofNat 32 mask)) == 0#32

/-! ### Identification and status (R241, R242) -/

/-- IDENTIFY. -/
def State.identifyOp (s : State) (q : Msg) : State :=
  let rom := s.inRecovery
  let u := s.uniqueId
  s.reply 0x01#8 q stOk 0
    [s.part.sysCap, BitVec.ofNat 32 ((if rom then 0 else 3) + s.fuses.lifecycle.code * 256),
     if rom then 0#32 else (s.imageOn s.active).release, BitVec.ofNat 32 (u / 2 ^ 32), BitVec.ofNat 32 u, s.rd aOf.mbxGen,
     BitVec.ofNat 32 ((if rom then 0 else s.fw.lamp.code) + s.f aOf.sysRole 0 1 * 2 ^ 8 + s.f aOf.sysRole 4 1 * 2 ^ 9),
     s.rd aOf.sysBoot]

/-- GET_STATUS: S0 to S8, the STATUS messages dropped on SPI in DETAIL. -/
def State.getStatusOp (s : State) (q : Msg) : State :=
  let lost := if s.domOn pdPipe then s.f aOf.pourResstat 16 12 else 0
  let s := s.reply 0x02#8 q stOk (satTo 65535 s.fw.statusDropped) (s.statusWords lost 0)
  { s with fw := { s.fw with statusDropped := 0 } }

/-! ### Configuration (R253, Table 11-6) -/

/-- The lane pairs that carry on one lane keep FOK and FIT at a period and an operating point, with the registers `g`
shows (R143). -/
def State.pairsKeep (s : State) (g : Nat → Word) (period op : Nat) : Bool :=
  (List.range 32).all (fun k =>
    let c := s.f (aOf.lnkPair k) 2 2
    (c != 1 && c != 2) || (s.pairOk g s.beam.setB k period op &&
      (match sliceOnLane g s.part (2 * k) with
       | some i => fitOk (sliceOf g i) period (rateCode g (2 * k))
       | none => true)))

/-- A period is in range, admissible (R86), and no lane is overloaded (R138), at an operating point. -/
def State.periodFits (s : State) (period op : Nat) : Bool :=
  decide (260000 ≤ period) && decide (period ≤ 20000000) && s.admissible s.beam.setB period op &&
  s.lanesOk s.view s.beam.setB period op

/-- The operating point a frame period is judged at: that in force, or that of LIT while PD_PIPE is not ON. -/
def State.judgeOp (s : State) : Nat := if s.domOn pdPipe then s.op else s.fw.items.litOp

/-- Words a CONFIG_SET of an item needs. -/
def itemLen (item : Nat) : Nat :=
  match item with
  | 2 | 7 => 5
  | 8 => 4
  | _ => 3

/-- The value of an item lies in its range, with no reserved bit set. -/
def State.itemValid (s : State) (item : Nat) (q : Msg) : Bool :=
  let v := (q.w 2).toNat
  match item with
  | 1 => decide (10 ≤ v) && decide (v ≤ 10000)
  | 2 => decide (v < 8) && onlyBits (q.w 3) 0xFFFF
  | 3 => decide (1 ≤ v) && decide (v ≤ 1000)
  | 4 => s.periodFits v s.judgeOp
  | 5 => s.periodFits v 3
  | 6 => (v == 1 || v == 2) && s.periodFits s.fw.items.framePeriod v
  | 7 => onlyBits (q.w 4) 3
  | 8 => true
  | _ => false

/-- An item names port 1 where it is absent. -/
def State.itemAbsent (s : State) (item : Nat) (q : Msg) : Bool :=
  !s.part.hasPort1 && ((item == 2 && bitOf (q.w 2) 2) || (item == 7 && bitOf (q.w 4) 1))

/-- An item would clear FOK or FIT of a pair on one lane. -/
def State.itemStarves (s : State) (item : Nat) (q : Msg) : Bool :=
  let v := (q.w 2).toNat
  s.domOn pdPipe && (match item with
    | 4 => !s.pairsKeep s.view v s.op
    | 5 => !s.pairsKeep s.view v 3
    | 6 => !s.pairsKeep s.view s.fw.items.framePeriod v
    | _ => false)

/-- Two words as a 64-bit number, high word first. -/
def wide (hi lo : Word) : BitVec 64 := BitVec.ofNat 64 (nat64 hi lo)

/-- An item takes its value. -/
def State.setItem (s : State) (item : Nat) (q : Msg) : State :=
  let v := (q.w 2).toNat
  let i := s.fw.items
  let put (s : State) (i : Items) : State := { s with fw := { s.fw with items := i } }
  match item with
  | 1 => put s { i with streamTmo := v }
  | 2 => put s { i with routes := v, dstMac := BitVec.ofNat 48 (nat64 (q.w 3) (q.w 4)) }
  | 3 => put s { i with hbPeriod := v }
  | 4 => (put s { i with framePeriod := v }).when (s.fw.lamp != .off || (s.fw.leaving.isSome && s.domOn pdPipe)) (fun s =>
    (s.writeFok false v s.op).periodOp (q.w 2))
  | 5 => put s { i with burstPeriod := v }
  | 6 => (put s { i with litOp := v }).setF aOf.pwrCtrl 2 2 v
  | 7 =>
    let s := put s { i with pourSid := wide (q.w 2) (q.w 3), pourPorts := fld (q.w 4) 0 2 }
    s.when (s.domOn pdPipe && (s.fw.lamp != .off || s.fw.leaving.isSome)) (·.setStreams true)
  | _ => put s { i with ctrlSid := wide (q.w 2) (q.w 3) }

/-- CONFIG_SET: item 0x0004 outside OFF is answered by R26 after its edge. -/
def State.configSetOp (s : State) (q : Msg) : State :=
  let item := fld (q.w 1) 0 16
  s.judge 0x10#8 q
    [(s.itemAbsent item q, stAbsent),
     (decide (q.len < itemLen item) || !onlyBits (q.w 1) 0xFFFF || !s.itemValid item q, stInvalid),
     ((item == 4 && s.device == 4) || s.itemStarves item q, stDenied)]
    (fun s =>
      if item = 4 ∧ s.fw.lamp ≠ .off then (s.setItem item q).hold 0x10#8 q .nextEdge
      else (s.setItem item q).reply 0x10#8 q stOk 0 [])

/-- The words of an item. -/
def Items.words (i : Items) (item : Nat) : Option (List Word) :=
  let n (v : Nat) : Word := BitVec.ofNat 32 v
  match item with
  | 1 => some [n i.streamTmo]
  | 2 => some (n i.routes :: words64 i.dstMac.toNat)
  | 3 => some [n i.hbPeriod]
  | 4 => some [n i.framePeriod]
  | 5 => some [n i.burstPeriod]
  | 6 => some [n i.litOp]
  | 7 => some (words64 i.pourSid.toNat ++ [n i.pourPorts])
  | 8 => some (words64 i.ctrlSid.toNat)
  | _ => none

/-- CONFIG_GET. -/
def State.configGetOp (s : State) (q : Msg) : State :=
  match s.fw.items.words (fld (q.w 1) 0 16) with
  | some ws => s.judge 0x11#8 q [(decide (q.len < 2) || !onlyBits (q.w 1) 0xFFFF, stInvalid)] (·.reply 0x11#8 q stOk 0 ws)
  | none => s.reply 0x11#8 q stInvalid 0 []

/-! ### Events (R254) -/

/-- An event source of an absent unit. -/
def State.absentSource (s : State) (n : Nat) : Bool :=
  (!s.part.hasPort1 && (n == 65 || (decide (96 ≤ n) && decide (n < 112)))) ||
  (decide (512 ≤ n) && decide (n < 768) && decide (s.part.lanes ≤ n % 64)) ||
  (decide (768 ≤ n) && decide (n < 832) && !s.part.hasSeg)

/-- EVENT_READ. -/
def State.eventReadOp (s : State) (q : Msg) : State :=
  let g := fld (q.w 1) 0 4
  let first := fld (q.w 1) 8 6
  s.judge 0x40#8 q
    [(g == 12 && !s.part.hasSeg, stAbsent), (decide (q.len < 2) || !onlyBits (q.w 1) 0x3F1F, stInvalid)]
    (fun s =>
      let lo := s.rd (aOf.evtStat (2 * g))
      let hi := s.rd (aOf.evtStat (2 * g + 1))
      let set := ((List.range 64).filter (fun i => decide (first ≤ i) && s.evSet (64 * g + i))).take 10
      let stamps := set.map (fun i => s.rd (aOf.evtTime (64 * g + i)))
      let s := s.when (bitOf (q.w 1) 4) (fun s =>
        (s.wr (aOf.evtStat (2 * g)) (s.rd (aOf.evtStat (2 * g)) &&& ~~~lo)).wr (aOf.evtStat (2 * g + 1))
          (s.rd (aOf.evtStat (2 * g + 1)) &&& ~~~hi))
      s.reply 0x40#8 q stOk 0 ([lo, hi, BitVec.ofNat 32 first] ++ stamps))

/-- Enable and route of one source. -/
def State.configSource (s : State) (n : Nat) (en : Bool) (route : Nat) : State :=
  let s := s.setF (aOf.evtRoute (n / 4)) (n % 4 * 8) 8 route
  s.enableOp (n / 32) (setFld (s.rd (aOf.evtEn (n / 32))) (n % 32) 1 (b2n en))

/-- EVENT_CONFIG. -/
def State.eventConfigOp (s : State) (q : Msg) : State :=
  let first := fld (q.w 1) 0 10
  let count := fld (q.w 2) 0 6 + 1
  let all := (List.range count).map (first + ·)
  s.judge 0x41#8 q
    [(all.any s.absentSource, stAbsent),
     (decide (q.len < 3) || !onlyBits (q.w 1) 0xDF0103FF || !onlyBits (q.w 2) 0x3F || decide (first % 64 + count > 64), stInvalid)]
    (fun s => (all.foldl (fun s n => s.configSource n (bitOf (q.w 1) 16) (fld (q.w 1) 24 8)) s).reply 0x41#8 q stOk 0 [])

/-! ### Time (R255, R256) -/

/-- The holdover age in ms. -/
def State.holdAge (s : State) : Nat := if s.servoState = 3 then (s.extNs - s.fw.servo.lastSyncNs) / 1000000 else 0

/-- The estimated error in ns: e0 when locked, R180 in holdover, open in the other states. -/
def State.estError (s : State) : Word :=
  let v := s.fw.servo
  let a := s.holdAge
  match s.servoState with
  | 2 => BitVec.ofNat 32 (rmsOf v.offsets)
  | 3 => BitVec.ofInt 32 (v.e0 + roundEven ((2000 * v.hdrift * a + v.hage * a * a : Nat) : Int) 2000000)
  | _ => Config.measured s.free

/-- The words of TIME_STATUS. -/
def State.timeWords (s : State) : List Word :=
  let v := s.fw.servo
  let t := s.nowExt.toNat
  let sec := t / 1000000000
  [BitVec.ofNat 32 (s.servoState + v.port.idx * 16 + b2n s.time.capped * 256)] ++ words64 v.gm.toNat ++
    [BitVec.ofNat 32 (sec / 2 ^ 32 % 65536), BitVec.ofNat 32 sec, BitVec.ofNat 32 (t % 1000000000), BitVec.ofInt 32 v.offset,
     s.estError, BitVec.ofNat 32 s.holdAge, BitVec.ofInt 32 v.reroute, BitVec.ofNat 32 (s.linkDelay v.port)]

/-- TIME_STATUS. -/
def State.timeStatusOp (s : State) (q : Msg) : State := s.drawn.reply 0x50#8 q stOk 0 s.timeWords

/-- Words a TIME_CONFIG of an item needs. -/
def timeItemLen (item : Nat) : Nat :=
  match item with
  | 0 | 1 => 3
  | 2 | 3 | 4 => 4
  | _ => 6

/-- The epoch a grid join carries. -/
def joinEpoch (q : Msg) : Int := ((nat64 (q.w 2) (q.w 3) * 1000000000 + (q.w 4).toNat : Nat) : Int)

/-- The value of a time item lies in its range. -/
def State.timeItemValid (s : State) (item : Nat) (q : Msg) : Bool :=
  match item with
  | 0 => onlyBits (q.w 2) 0xFFFFFF
  | 1 => onlyBits (q.w 2) 0x3FF
  | 2 => true
  | 3 | 4 => onlyBits (q.w 2) 1
  | 5 => onlyBits (q.w 2) 0xFFFF && decide ((q.w 4).toNat < 1000000000) && decide (260000 ≤ (q.w 5).toNat) &&
      decide ((q.w 5).toNat ≤ 20000000) && (!s.domOn pdPipe || s.periodFits (q.w 5).toNat s.fw.items.litOp)
  | 6 => onlyBits (q.w 2) 7
  | _ => false

/-- The port a time item names. -/
def portOf (w : Word) : Port := if bitOf w 0 then .p1 else .p0

/-- A time item takes its value. -/
def State.setTimeItem (s : State) (item : Nat) (q : Msg) : State :=
  match item with
  | 0 => s.plainWrite aOf.timeStepthr (setFld (s.rd aOf.timeStepthr) 0 24 (q.w 2).toNat)
  | 1 => s.setF aOf.timeCtrl 0 10 (q.w 2).toNat
  | 2 => s.setServo { s.fw.servo with hdrift := (q.w 2).toNat, hage := (q.w 3).toNat }
  | 3 => s.plainWrite (aOf.timeAsym (portOf (q.w 2)).idx) (q.w 3)
  | 4 => s.plainWrite (aOf.timeLat (portOf (q.w 2)).idx) (q.w 3)
  | 5 =>
    let s := { s with fw := { s.fw with items := { s.fw.items with grid := some (joinEpoch q, (q.w 5).toNat) } } }
    s.joinGrid (joinEpoch q) (q.w 5).toNat
  | _ =>
    let w := fld (q.w 2) 0 3
    ((s.plainWrite (aOf.timeEw0 w) (q.w 3)).plainWrite (aOf.timeEw1 w) (q.w 4)).plainWrite (aOf.timeEw2 w) (q.w 5)

/-- TIME_CONFIG: the grid is joined as the request is taken. -/
def State.timeConfigOp (s : State) (q : Msg) : State :=
  let item := fld (q.w 1) 0 8
  let lightOn := s.fw.lamp == .lit || s.fw.lamp == .ingot || s.fw.lamp == .service
  s.judge 0x51#8 q
    [((item == 3 || item == 4) && bitOf (q.w 2) 0 && !s.part.hasPort1, stAbsent),
     (!onlyBits (q.w 1) 0xFF || decide (q.len < timeItemLen item) || !s.timeItemValid item q, stInvalid),
     (item == 5 && lightOn, stDenied)]
    (fun s => (s.setTimeItem item q).reply 0x51#8 q stOk 0 [])

/-! ### Calibration (R257) -/

/-- CAL_RUN: the reply follows the end of the run. -/
def State.calRunOp (s : State) (q : Msg) : State :=
  let obj := fld (q.w 1) 0 8
  s.judge 0x60#8 q
    [(decide (q.len < 2) || !onlyBits (q.w 1) 0x1FF || (calObjects obj).isEmpty, stInvalid),
     (s.cal.calRun.isSome, stBusy)]
    (fun s => (s.hold 0x60#8 q .calEnd).calGo obj)

/-- CAL_READ: for the ADC, the entry of the core in service. -/
def State.calReadOp (s : State) (q : Msg) : State :=
  let obj := fld (q.w 1) 0 8
  let entry := s.calEntryOf (bitOf (q.w 1) 8) (if obj = 16 then 16 + s.f aOf.calCtrl 0 1 else obj)
  s.judge 0x61#8 q [(decide (q.len < 2) || !onlyBits (q.w 1) 0x1FF || decide (16 < obj) || entry.isNone, stInvalid)]
    (fun s =>
      let e := entry.getD []
      s.reply 0x61#8 q stOk 0 [BitVec.ofNat 32 obj, e.getD 1 0#32, e.headD 0#32 &&& 0xFFFF000F#32, e.getD 2 0#32])

/-! ### NV store and log (R258, R259) -/

/-- The words of a range are read: none where a group is uncorrectable, with its address. -/
def State.nvFetchRange (s : State) (a n : Nat) : State × Option (List Word) :=
  let s := (List.range n).foldl (fun s i => s.nvStall (a + 4 * i)) s
  match (List.range n).find? (fun i => s.nv.bad.contains ((a + 4 * i) / 8)) with
  | some i => (s.nvUncorrectable ((a + 4 * i) / 8 * 8), none)
  | none =>
    let weak := (((List.range n).map (fun i => (a + 4 * i) / 8)).dedup).filter (fun g => s.nv.weak.contains g)
    (weak.foldl (fun s g => s.nvCorrected (g * 8)) s, some ((List.range n).map (fun i => s.nvWord (a + 4 * i))))

/-- NV_READ. -/
def State.nvReadOp (s : State) (q : Msg) : State :=
  let a := (q.w 1).toNat
  let n := fld (q.w 2) 0 4
  s.judge 0x70#8 q
    [(decide (q.len < 3) || decide (a % 4 ≠ 0) || !onlyBits (q.w 2) 0xF || n == 0 || decide (12 < n) || decide (0x100000 < a + 4 * n), stInvalid)]
    (fun s =>
      match s.nvFetchRange a n with
      | (s, none) => s.reply 0x70#8 q stFault 0 []
      | (s, some ws) => s.reply 0x70#8 q stOk 0 (q.w 1 :: ws))

/-- Every byte of a range may be written by NV_WRITE. -/
def State.nvWritable (s : State) (a n : Nat) : Bool :=
  !s.bpCovers a && decide (a + n ≤ 0x10000) && (match s.fuses.lifecycle with
    | .development => true
    | .production => decide (0x8000 ≤ a)
    | .returned => false)

/-- NV_WRITE; a power-fail save holds firmware's writes off, which is answered FAULT. -/
def State.nvWriteOp (s : State) (q : Msg) : State :=
  let a := (q.w 1).toNat
  let ws := (q.ws.drop 1).take 13
  s.judge 0x71#8 q
    [(decide (q.len < 3) || decide (a % 4 ≠ 0), stInvalid), (!s.nvWritable a (4 * ws.length), stDenied), (s.nvRefuses, stFault)]
    (fun s => (s.nvDrain.nvPut a (wordsBytes ws)).reply 0x71#8 q stOk 0 [])

/-- A save NV_SAVE_NOW asks for is protected by BP. -/
def State.saveBarred (s : State) (bits : Word) : Bool :=
  (bitOf bits 0 && s.bpCovers (recBody 4 (1 - s.f aOf.nvcWear 0 1))) ||
  (bitOf bits 1 && s.bpCovers (recHdr 2 0)) || (bitOf bits 2 && s.bpCovers 0x40000) || (bitOf bits 3 && s.bpCovers (recHdr 5 0))

/-- NV_SAVE_NOW: the reply follows the wear save, which takes its time. -/
def State.nvSaveNowOp (s : State) (q : Msg) : State :=
  let b := q.w 1
  s.judge 0x72#8 q
    [(decide (q.len < 2) || !onlyBits b 0xF, stInvalid), ((bitOf b 0 && !s.domOn pdCru) || s.saveBarred b, stDenied), (s.nvRefuses, stFault)]
    (fun s =>
      let s := s.when (bitOf b 1) (·.saveHours)
      let s := s.when (bitOf b 2) (·.logAppend)
      let s := s.when (bitOf b 3) (fun s => s.recSave 5 s.fw.items.body)
      if bitOf b 0 then (s.hold 0x72#8 q (.nvSave (fld b 0 4))).wearGo
      else s.reply 0x72#8 q stOk 0 s.saveWords)

/-- LOG_READ. -/
def State.logReadOp (s : State) (q : Msg) : State :=
  let i := fld (q.w 1) 0 16
  let l := s.logNewest
  match l[i]? with
  | some k => s.judge 0xC0#8 q [(decide (q.len < 2) || !onlyBits (q.w 1) 0xFFFF, stInvalid)]
      (·.reply 0xC0#8 q stOk 0 (BitVec.ofNat 32 (i * 65536 + l.length) :: (List.range 8).map (fun j => s.nvWord (0x40000 + k * 32 + 4 * j))))
  | none => s.reply 0xC0#8 q stInvalid 0 []

/-! ### Commands -/

/-- IDENTIFY (R241). -/
def execIdentify (q : Msg) (s : State) : Res := done (s.begin.receive 0x01#8 q (·.identifyOp q))

/-- GET_STATUS (R242). -/
def execGetStatus (q : Msg) (s : State) : Res := done (s.begin.receive 0x02#8 q (·.getStatusOp q))

/-- CONFIG_SET (R253). -/
def execConfigSet (q : Msg) (s : State) : Res := done (s.begin.receive 0x10#8 q (·.configSetOp q))

/-- CONFIG_GET (R253). -/
def execConfigGet (q : Msg) (s : State) : Res := done (s.begin.receive 0x11#8 q (·.configGetOp q))

/-- EVENT_READ (R254). -/
def execEventRead (q : Msg) (s : State) : Res := done (s.begin.receive 0x40#8 q (·.eventReadOp q))

/-- EVENT_CONFIG (R254). -/
def execEventConfig (q : Msg) (s : State) : Res := done (s.begin.receive 0x41#8 q (·.eventConfigOp q))

/-- TIME_STATUS (R255). -/
def execTimeStatus (q : Msg) (s : State) : Res := done (s.begin.receive 0x50#8 q (·.timeStatusOp q))

/-- TIME_CONFIG item 0 (R256). -/
def execTimeConfigThr (q : Msg) (s : State) : Res := done (s.begin.receive 0x51#8 (q.sel 0 8 0) (·.timeConfigOp (q.sel 0 8 0)))

/-- TIME_CONFIG item 1 (R256). -/
def execTimeConfigSlew (q : Msg) (s : State) : Res := done (s.begin.receive 0x51#8 (q.sel 0 8 1) (·.timeConfigOp (q.sel 0 8 1)))

/-- TIME_CONFIG item 2 (R256). -/
def execTimeConfigHoldover (q : Msg) (s : State) : Res := done (s.begin.receive 0x51#8 (q.sel 0 8 2) (·.timeConfigOp (q.sel 0 8 2)))

/-- TIME_CONFIG item 3 (R256). -/
def execTimeConfigAsym (q : Msg) (s : State) : Res := done (s.begin.receive 0x51#8 (q.sel 0 8 3) (·.timeConfigOp (q.sel 0 8 3)))

/-- TIME_CONFIG item 4 (R256). -/
def execTimeConfigLat (q : Msg) (s : State) : Res := done (s.begin.receive 0x51#8 (q.sel 0 8 4) (·.timeConfigOp (q.sel 0 8 4)))

/-- TIME_CONFIG item 5 (R183, R256). -/
def execTimeConfigJoin (q : Msg) (s : State) : Res := done (s.begin.receive 0x51#8 (q.sel 0 8 5) (·.timeConfigOp (q.sel 0 8 5)))

/-- TIME_CONFIG item 6 (R256). -/
def execTimeConfigWindow (q : Msg) (s : State) : Res := done (s.begin.receive 0x51#8 (q.sel 0 8 6) (·.timeConfigOp (q.sel 0 8 6)))

/-- CAL_RUN (R257). -/
def execCalRun (q : Msg) (s : State) : Res := done (s.begin.receive 0x60#8 q (·.calRunOp q))

/-- CAL_READ (R257). -/
def execCalRead (q : Msg) (s : State) : Res := done (s.begin.receive 0x61#8 q (·.calReadOp q))

/-- NV_READ (R258), with what SECDED finds in the groups it reads (R287). -/
def execNvRead (q : Msg) (s : State) (faults : List (Nat × EccResult) := []) : Res :=
  let s := s.begin
  done ((s.when s.nvOn (fun s => faults.foldl (fun s f => s.nvMark f.1 f.2) s)).receive 0x70#8 q (·.nvReadOp q))

/-- NV_WRITE (R258). -/
def execNvWrite (q : Msg) (s : State) : Res := done (s.begin.receive 0x71#8 q (·.nvWriteOp q))

/-- NV_SAVE_NOW (R258). -/
def execNvSaveNow (q : Msg) (s : State) : Res := done (s.begin.receive 0x72#8 q (·.nvSaveNowOp q))

/-- LOG_READ (R259). -/
def execLogRead (q : Msg) (s : State) : Res := done (s.begin.receive 0xC0#8 q (·.logReadOp q))

end Sys2Proof.Machine
end

