-- ==== Sys2Proof/Machine/LampMsg.lean ====
section
/-! DEFINITION. Adquel requests that change the lamp and the beam (R245, R248 to R252): LAMP_STATE, PATTERN_SELECT,
LEVEL_SET, INGOT_STORE and MASK_SET, the transfers' time limit, and the commands of those messages. -/

namespace Sys2Proof.Machine

open Sys2Proof

/-! ### LAMP_STATE (R245, Table 11-4) -/

/-- The lamp state a code names. -/
def lampOf (n : Nat) : Option Lamp :=
  match n with
  | 0 => some .off | 1 => some .dark | 2 => some .lit | 3 => some .ingot | 4 => some .service | _ => none

/-- A transfer or a handover holds LAMP_STATE OFF off. -/
def State.offHeld (s : State) : Bool := s.fw.ingotXfer.isSome || s.fw.fwXfer.isSome || s.cpu.handover.isSome

/-- The number a cut to a lamp state gives the pour that makes it: the targets of an Ingot with FIXOFS come first. -/
def State.cutId (s : State) (t : Lamp) : BitVec 16 := if (s.ingotTargets t).isSome then s.nextInject + 1#16 else s.nextInject

/-- The request is answered after the launch of the cut's frame. -/
def State.cutFor (s : State) (q : Msg) (t : Lamp) : State := (s.hold 0x20#8 q (.pour (s.cutId t))).cutTo t

/-- A fade starts now, and the request is answered after the launch of its first step. -/
def State.fadeFor (s : State) (q : Msg) (up : Bool) (t : Lamp) : State := (s.hold 0x20#8 q .fadeStep).startFade up t s.extNs

/-- A departure from OFF is cancelled: its LAMP_STATE is answered DENIED; the flush and the fall of the votes follow as for an
entry into OFF, and OFF is answered OK after them (R83, R245). -/
def State.cancelDeparture (s : State) (q : Msg) : State :=
  let s := s.answerWhere (fun r => match r.wait with | .lampEntry t => t != .off | _ => false) stDenied (fun _ _ => [])
  let s := ({ s with fw := { s.fw with leaving := none } }).hold 0x20#8 q (.lampEntry .off)
  if s.domOn pdPipe then ({ s with fw := { s.fw with entering := 3 } }).goDark else s.goDark.arriveOff

/-- The lamp begins to enter OFF: a cut to DARK, the rest at its edges; with PD_PIPE not ON nothing is left to show. -/
def State.enterOff (s : State) (q : Msg) : State :=
  let s := s.hold 0x20#8 q (.lampEntry .off)
  if s.domOn pdPipe then ({ s with fw := { s.fw with entering := 1, restart := 0 } }).cutTo .dark
  else (s.segFor .off).arriveOff

/-- LAMP_STATE asks the lamp for state `t`. -/
def State.lampTo (s : State) (q : Msg) (t : Lamp) (fade force : Bool) : State :=
  let now := s.fw.lamp
  let returned := s.fuses.lifecycle == .returned
  let answer (s : State) (st : Nat) : State := s.reply 0x20#8 q st 0 []
  let fadingDown := match s.fw.fade with | some f => !f.up | none => false
  if t = .off ∧ s.offHeld then answer s stBusy
  else if s.fw.leaving.isSome then if t = .off then s.cancelDeparture q else answer s stBusy
  else if now = t ∧ ¬ s.fading ∧ s.fw.cuts.isEmpty then s.reply 0x20#8 q stOk 0 [BitVec.ofNat 32 t.code, s.frameNo]
  else if t = .off then s.enterOff q
  else if returned ∧ t ≠ .dark then answer s stDenied
  else match now with
    | .off => (s.hold 0x20#8 q (.lampEntry t)).depart t
    | .lit =>
      match t with
      | .service => if force then s.cutFor q t else answer s stDenied
      | .lit =>
        -- a fade is in progress, up to the Ingot or down to LIT
        if !fade then s.cutFor q t
        else if fadingDown then s.hold 0x20#8 q .nextEdge
        else s.fadeFor q false t
      | _ => if fade then s.fadeFor q true t else s.cutFor q t
    | .service => s.cutFor q t
    | _ =>
      if t = .lit then
        if s.shed then answer s stDenied
        else if fade then s.fadeFor q false t
        else s.cutFor q t
      else s.cutFor q t

/-- LAMP_STATE: BUSY while the lamp enters OFF. -/
def State.lampStateOp (s : State) (q : Msg) : State :=
  let w := q.w 1
  match lampOf (fld w 0 4) with
  | none => s.reply 0x20#8 q stInvalid 0 []
  | some t => s.judge 0x20#8 q [(decide (q.len < 2) || !onlyBits w 0x30F, stInvalid), (s.fw.entering != 0, stBusy)]
      (·.lampTo q t (bitOf w 8) (bitOf w 9))

/-! ### Beam requests (R239, R250 to R252) -/

/-- No light follows a request: the lamp is OFF, or PD_PIPE is not ON. -/
def State.noLight (s : State) : Bool := s.fw.lamp == .off || !s.domOn pdPipe

/-- The layer record PATTERN_SELECT asks for. -/
def selectRecord (w : Word) : Word × Word :=
  (BitVec.ofNat 32 (2 ^ 28 + fld w 16 4 * 2 ^ 24 + fld w 8 8 * 2 ^ 16 + fld w 20 4 * 2 ^ 12 + fld w 24 1 * 2 ^ 11), BitVec.ofNat 32 (fld w 0 3))

/-- PATTERN_SELECT: a slot is defined when the active set holds a pattern in it. -/
def State.patternSelectOp (s : State) (q : Msg) : State :=
  let w := q.w 1
  let r := selectRecord w
  s.judge 0x21#8 q
    [(decide (q.len < 2) || !onlyBits w 0x1FFFFF7 || fld w 4 4 == 15 || fld w 0 3 == 7 || decide (4 < fld w 16 4) ||
        !(layerOfWord r.1 r.2).ok || (s.pattern s.beam.setB (fld w 0 3)).w == 0 ||
        !(s.pattern s.beam.setB (fld w 0 3)).ok s.part, stInvalid),
     (s.noLight || s.fuses.lifecycle == .returned, stDenied)]
    (fun s => (s.hold 0x21#8 q (.pour s.nextInject)).injectLayer (fld w 4 4) r)

/-- LEVEL_SET: with KEEP the slew limits in force go with the targets. -/
def State.levelSetOp (s : State) (q : Msg) : State :=
  let w := q.w 2
  s.judge 0x22#8 q
    [(decide (q.len < 3) || !onlyBits w 0x1FFFF || !targetWordOk (q.w 1), stInvalid), (s.noLight, stDenied)]
    (fun s =>
      let limits := if bitOf w 16 then s.setWord s.beam.setB 0x2A4 else w &&& 0xFFFF#32
      (s.hold 0x22#8 q (.pour s.nextInject)).injectPour .tableWrite 0x04 0#32 8#32 true (beBytes (q.w 1) ++ beBytes limits))

/-- MASK_SET: the records reach the mask fast path without a launch time; the reply follows the first line they gate. -/
def State.maskSetOp (s : State) (q : Msg) : State :=
  let w := q.w 1
  let first := fld w 0 8
  let count := fld w 8 8
  let clear := bitOf w 16
  let bytes := ((q.ws.drop 1).take (6 * count)).flatMap beBytes
  s.judge 0x30#8 q
    [(decide (q.len < 2) || !onlyBits w 0x1FFFF || count == 0 || decide (256 < first + count) ||
        (!clear && (decide (2 < count) || decide (q.len < 2 + 6 * count))), stInvalid),
     (s.noLight, stDenied)]
    (fun s =>
      (s.hold 0x30#8 q (.maskLine s.nextInject)).injectAtOnce (if clear then .maskClear else .maskSet) 0
        (BitVec.ofNat 32 (first * 65536)) (BitVec.ofNat 32 (count * 65536)) false (if clear then [] else bytes))

/-! ### Transfers (R249, R260) -/

/-- The open transfer of a kind. -/
def State.xfer (s : State) : XferKind → Option Xfer
  | .ingot => s.fw.ingotXfer
  | .firmware => s.fw.fwXfer

/-- Replace it. -/
def State.setXfer (s : State) (k : XferKind) (x : Option Xfer) : State :=
  match k with
  | .ingot => { s with fw := { s.fw with ingotXfer := x } }
  | .firmware => { s with fw := { s.fw with fwXfer := x } }

/-- A transfer of this route was closed by its time limit, and its next message has not come. -/
def State.timedOut (s : State) (k : XferKind) (r : Route) : Bool := s.fw.xferClosed.any (fun e => decide (e = (k, r)))

/-- That message has come. -/
def State.forgetTimeout (s : State) (k : XferKind) (r : Route) : State :=
  { s with fw := { s.fw with xferClosed := s.fw.xferClosed.filter (fun e => !decide (e = (k, r))) } }

/-- A DATA or END without an open transfer of its route: TIMEOUT once after a time limit, else INVALID. -/
def State.noXfer (s : State) (op : BitVec 8) (k : XferKind) (q : Msg) : State :=
  if s.timedOut k q.route then (s.forgetTimeout k q.route).reply op q stTimeout 0 [] else s.reply op q stInvalid 0 []

/-- The image bytes a DATA carries. -/
def dataBytes (q : Msg) : List Byte := ((q.ws.drop 2).take 13).flatMap beBytes

/-- The reply words of a BEGIN or DATA, whose contents the manual leaves open. -/
def State.openWord (s : State) : List Word := [Config.measured s.free]

/-- BEGIN: opened, or restarted by its own route; BUSY while another route's is open. -/
def State.beginXfer (s : State) (k : XferKind) (q : Msg) (erasing : Bool) : State :=
  (s.forgetTimeout k q.route).setXfer k (some { route := q.route, len := (q.w 2).toNat, crc := q.w 3, bytes := [], erasing := erasing })

/-- Another route holds the transfer. -/
def State.otherRoute (s : State) (k : XferKind) (q : Msg) : Bool :=
  match s.xfer k with
  | some x => decide (x.route ≠ q.route)
  | none => false

/-- DATA: taken at its place, ignored below it, INVALID beyond it; `land` stores the bytes taken, and of its last word only those
within the announced length (R249). -/
def State.dataXfer (s : State) (op : BitVec 8) (k : XferKind) (q : Msg) (land : State → Nat → List Byte → State) : State :=
  match s.xfer k with
  | none => s.noXfer op k q
  | some x =>
    let off := (q.w 2).toNat
    let bs := (dataBytes q).take (x.len - x.bytes.length)
    if x.route ≠ q.route then s.noXfer op k q
    else if q.len < 4 ∨ off % 4 ≠ 0 ∨ x.bytes.length < off then s.reply op q stInvalid 0 []
    else if x.erasing then s.reply op q stBusy 0 []
    else
      let s := if off = x.bytes.length then land (s.setXfer k (some { x with bytes := x.bytes ++ bs })) off bs else s
      s.drawn.reply op q stOk 0 s.openWord

/-! ### INGOT_STORE (R249) -/

/-- BEGIN. -/
def State.ingotBegin (s : State) (q : Msg) : State :=
  let n := (q.w 2).toNat
  s.judge 0x23#8 q
    [(decide (q.len < 4) || !onlyBits (q.w 1) 0xF || decide (n < 32) || decide (66336 < n), stInvalid), (s.otherRoute .ingot q, stBusy)]
    (fun s => (s.beginXfer .ingot q false).drawn.reply 0x23#8 q stOk 0 s.openWord)

/-- DATA. -/
def State.ingotData (s : State) (q : Msg) : State :=
  s.judge 0x23#8 q [(!onlyBits (q.w 1) 0xF, stInvalid)] (fun s => s.dataXfer 0x23#8 .ingot q (fun s _ _ => s))

/-- END: the checks, then the copy not in force is written and the pattern loaded. -/
def State.ingotEnd (s : State) (q : Msg) : State :=
  match s.fw.ingotXfer with
  | none => s.judge 0x23#8 q [(decide (q.len < 2) || !onlyBits (q.w 1) 0xF, stInvalid)] (·.noXfer 0x23#8 .ingot q)
  | some x =>
    if x.route ≠ q.route then s.noXfer 0x23#8 .ingot q
    else if !onlyBits (q.w 1) 0xF then s.reply 0x23#8 q stInvalid 0 []
    else
      let s := s.setXfer .ingot none
      let t := s.recNext 6
      if x.bytes.length ≠ x.len then s.reply 0x23#8 q stInvalid 0 []
      else if crc32c x.bytes ≠ x.crc then s.reply 0x23#8 q stFault 0 []
      else if !ingotOk x.bytes then s.reply 0x23#8 q stInvalid 0 []
      else if s.bpCovers (recHdr 6 t.1) then s.reply 0x23#8 q stDenied 0 []
      else if s.nvRefuses then s.reply 0x23#8 q stFault 0 []
      else
        let s := s.recSave 6 x.bytes
        let s := ({ s with fw := { s.fw with ingotStale := true } }).loadIngot
        s.reply 0x23#8 q stOk 0 [BitVec.ofNat 32 t.2]

/-- INGOT_STORE by its PHASE. -/
def State.ingotStoreOp (s : State) (q : Msg) : State :=
  match fld (q.w 1) 0 4 with
  | 0 => s.ingotBegin q
  | 1 => s.ingotData q
  | 2 => s.ingotEnd q
  | _ => s.reply 0x23#8 q stInvalid 0 []

/-! ### Commands -/

/-- LAMP_STATE (R245). -/
def execLampState (q : Msg) (s : State) : Res := done (s.begin.receive 0x20#8 q (·.lampStateOp q))

/-- PATTERN_SELECT (R250). -/
def execPatternSelect (q : Msg) (s : State) : Res := done (s.begin.receive 0x21#8 q (·.patternSelectOp q))

/-- LEVEL_SET (R251). -/
def execLevelSet (q : Msg) (s : State) : Res := done (s.begin.receive 0x22#8 q (·.levelSetOp q))

/-- INGOT_STORE PHASE 0 (R249). -/
def execIngotStoreBegin (q : Msg) (s : State) : Res := done (s.begin.receive 0x23#8 (q.sel 0 4 0) (·.ingotStoreOp (q.sel 0 4 0)))

/-- INGOT_STORE PHASE 1 (R249). -/
def execIngotStoreData (q : Msg) (s : State) : Res := done (s.begin.receive 0x23#8 (q.sel 0 4 1) (·.ingotStoreOp (q.sel 0 4 1)))

/-- INGOT_STORE PHASE 2 (R249). -/
def execIngotStoreEnd (q : Msg) (s : State) : Res := done (s.begin.receive 0x23#8 (q.sel 0 4 2) (·.ingotStoreOp (q.sel 0 4 2)))

/-- MASK_SET message (R252). -/
def execMaskSetMessage (q : Msg) (s : State) : Res := done (s.begin.receive 0x30#8 q (·.maskSetOp q))

/-- TRANSFER_TIMEOUT (R249): an open transfer closes, and its next message is answered TIMEOUT. -/
def execTransferTimeout (k : XferKind) (s : State) : Res :=
  let s := s.begin
  match s.xfer k with
  | none => done s
  | some x => done (s.when (s.alive && s.domOn pdCtrl && (s.fw.started || s.inRecovery) && !x.erasing) (fun s =>
      { s.setXfer k none with fw := { (s.setXfer k none).fw with xferClosed := s.fw.xferClosed ++ [(k, x.route)] } }))

end Sys2Proof.Machine
end

