-- ==== Sys2Proof/Machine/FwMsg.lean ====
section
/-! DEFINITION. Adquel requests on firmware images, self-tests, lanes and power (R260 to R263), the commands of those
messages, and the dispatch of a request by its opcode. -/

namespace Sys2Proof.Machine

open Sys2Proof

/-! ### FW_STAGE, FW_COMMIT, FW_HANDOVER (R260, R213, R214, R217) -/

/-- The slot that does not run on the active core. -/
def State.idleSlot (s : State) : Nat := 1 - (s.imageOn s.active).slot % 2

/-- BEGIN: the reply follows the erase of the slot; in recovery nothing is erased. -/
def State.stageBegin (s : State) (q : Msg) : State :=
  let n := (q.w 2).toNat
  s.judge 0x80#8 q
    [(decide (q.len < 3) || !onlyBits (q.w 1) 0xF || decide (n < 260) || decide (131328 < n) || decide (n % 4 ≠ 0), stInvalid),
     (s.otherRoute .firmware q || s.cpu.handover.isSome, stBusy)]
    (fun s =>
      if s.inRecovery then (s.beginXfer .firmware q false).drawn.reply 0x80#8 q stOk 0 s.openWord
      else
        let s := { s with cpu := { s.cpu with stagedOk := s.cpu.stagedOk.filter (· != s.idleSlot) } }
        (s.beginXfer .firmware q true).hold 0x80#8 q .erase)

/-- Bytes of a DATA reach the idle slot. -/
def State.landSlot (s : State) (off : Nat) (bs : List Byte) : State :=
  if s.inRecovery then s
  else { s with cpu := { s.cpu with flash := putBytes flashInit s.cpu.flash (slotBase s.idleSlot + off) (bs.take (0x100000 - off)) } }

/-- DATA. -/
def State.stageData (s : State) (q : Msg) : State :=
  s.judge 0x80#8 q [(!onlyBits (q.w 1) 0xF, stInvalid)] (fun s => s.dataXfer 0x80#8 .firmware q State.landSlot)

/-- END: R212 on the slot, or in recovery on the image in the TCMs, which then runs. -/
def State.stageEnd (s : State) (q : Msg) : State :=
  match s.fw.fwXfer with
  | none => s.judge 0x80#8 q [(decide (q.len < 2) || !onlyBits (q.w 1) 0xF, stInvalid)] (·.noXfer 0x80#8 .firmware q)
  | some x =>
    if x.route ≠ q.route then s.noXfer 0x80#8 .firmware q
    else if !onlyBits (q.w 1) 0xF then s.reply 0x80#8 q stInvalid 0 []
    else if x.erasing then s.reply 0x80#8 q stBusy 0 []
    else
      let rom := s.inRecovery
      let slot := s.idleSlot
      let s := s.setXfer .firmware none
      let code := if rom then s.bytesCode x.bytes else s.slotCode slot false
      if x.bytes.length ≠ x.len then s.reply 0x80#8 q stInvalid 0 []
      else if code ≠ 0 then s.reply 0x80#8 q stFault code []
      else
        let s := if rom then
            let h := x.bytes.take 256
            (s.runImage s.active (imageOf s.cpu.bootSlot true h) h ((x.bytes.drop 256).take (hdrIlen h + hdrDlen h))).showBoot.setStage 4
          else { s with cpu := { s.cpu with stagedOk := slot :: s.cpu.stagedOk.filter (· != slot) } }
        s.drawn.reply 0x80#8 q stOk 0 s.openWord

/-- FW_STAGE by its PHASE. -/
def State.fwStageOp (s : State) (q : Msg) : State :=
  match fld (q.w 1) 0 4 with
  | 0 => s.stageBegin q
  | 1 => s.stageData q
  | 2 => s.stageEnd q
  | _ => s.reply 0x80#8 q stInvalid 0 []

/-- The boot record's body. -/
def bootBody (slot count : Nat) : List Byte := wordsBytes [BitVec.ofNat 32 slot, BitVec.ofNat 32 count]

/-- FW_COMMIT: fuses up to the running image's ARBVER, its slot preferred. -/
def State.fwCommitOp (s : State) (q : Msg) : State :=
  let c := s.active
  let i := s.imageOn c
  s.judge 0x81#8 q
    [(decide (q.len < 2) || !onlyBits (q.w 1) 1 || decide (fld (q.w 1) 0 1 ≠ i.slot), stInvalid), (s.nvRefuses, stFault)]
    (fun s =>
      let (s, ok) := s.blowTo c i.arbver
      if ok then
        let s := (s.recSave 1 (bootBody i.slot s.fw.bootCount)).showBoot
        s.reply 0x81#8 q stOk 0 [BitVec.ofNat 32 s.fuses.arb]
      else s.reply 0x81#8 q stFault 0 [])

/-- FW_HANDOVER: the standby core is reset and boots the slot; the reply comes with the swap. -/
def State.fwHandoverOp (s : State) (q : Msg) : State :=
  let slot := fld (q.w 1) 0 1
  s.judge 0x82#8 q
    [(decide (q.len < 2) || !onlyBits (q.w 1) 1 || !s.cpu.stagedOk.contains slot, stInvalid), (s.cpu.handover.isSome, stBusy)]
    (fun s =>
      let s := s.hold 0x82#8 q .handover
      ({ s with cpu := { s.cpu with handover := some slot, bootSlot := slot } }).resetCore s.active.other)

/-! ### SELFTEST (R261, Table 11-7) -/

/-- The pair of a lane can fail over: FIT and FOK stand and both its lanes are UP. -/
def State.canFailOver (s : State) (n : Nat) : Bool :=
  s.fitFok (n / 2) && s.laneState (n / 2 * 2) == lnUp && s.laneState (n / 2 * 2 + 1) == lnUp

/-- A test names an absent unit. -/
def State.testAbsent (s : State) (t : Nat) (arg : Word) : Bool :=
  match t with
  | 5 | 6 => decide (s.part.lanes ≤ fld arg 0 6)
  | 8 => !s.part.hasSeg
  | 11 => (s.sd (fld arg 0 6)).lanes.any (fun n => decide (s.part.lanes ≤ n))
  | _ => false

/-- A test is one of Table 11-7, with an argument in its layout. -/
def State.testValid (s : State) (t : Nat) (arg : Word) : Bool :=
  match t with
  | 1 | 2 => onlyBits arg 0x7F007F
  | 3 | 7 | 8 | 9 | 10 => arg == 0#32
  | 4 => decide (arg.toNat < s.part.banks)
  | 5 => onlyBits arg 0xFF033F
  | 6 | 11 => onlyBits arg 0x3F
  | _ => false

/-- A test takes the light. -/
def State.offline (s : State) (t : Nat) (arg : Word) : Bool :=
  t == 9 || t == 11 || (t == 5 && !s.canFailOver (fld arg 0 6))

/-- A destructive March names a block that is not free. -/
def State.marchBarred (s : State) (t : Nat) (arg : Word) : Bool :=
  t == 2 && (List.range 128).any (fun b => decide (fld arg 0 7 ≤ b) && decide (b ≤ fld arg 16 7) && !s.blockBit (aOf.tunFree 0) b)

/-- The engine a test uses is busy. -/
def State.testBusy (s : State) (t : Nat) : Bool :=
  s.fw.test.isSome || ((t == 1 || t == 2) && s.tun.march.isSome) || (t == 4 && s.cru.retire.isSome)

/-- A PRBS test starts: firmware writes DRV_TEST through the driver of the lane's slice, and takes the lane once it has gone out;
with no driver to write it to, the test cannot complete (R151, R261). -/
def State.prbsTest (s : State) (arg : Word) : State :=
  let n := fld arg 0 6
  match s.sliceAt n with
  | none => s.faultTest 5
  | some i => (s.setF (aOf.laneCtrl n) 8 2 (fld arg 8 2)).queueMgmt i
      (.cfg 1 (BitVec.ofNat 32 (fld arg 8 2 + (if (s.sd i).paired then n % 2 else 0) * 4 + fld arg 16 8 * 256)))

/-- A read-back sweep starts at row 0 of every LIT slice. -/
def State.sweepStart (s : State) : State :=
  ((List.range 64).foldl (fun s i => s.when (s.sliceState i == slLit) (fun s =>
    s.setSlice i { s.slice i with rbRow := 0, rbCol := 0, sweep := true, queries := [] })) s).sweepEnd

/-- Sensor elements marked failed, and ADC cores out of service (R294, R297). -/
def State.elementsFailed (s : State) : Nat :=
  ((List.range 16).map (fun i => (List.range 4).countP (fun e => s.bit (aOf.calTsctl i) (4 + e)))).sum +
    (List.range 2).countP (fun k => s.bit aOf.calCtrl (1 + k))

/-- A test starts. The pipeline test frame and the pixel scan show their light in the next frame, and are answered by R26; what
light they show is open (DESIGN CHOICE, assumption 119). -/
def State.runTest (s : State) (t : Nat) (arg : Word) : State :=
  match t with
  | 1 | 2 =>
    let s := s.marchOp (fld arg 0 7) (fld arg 16 7) (t == 1)
    if s.tun.march.isNone then s.faultTest t else s
  | 3 => if s.cruOn then { s with cru := { s.cru with scrubAt := 0, corrected := [] } } else s.faultTest t
  | 4 => if s.cruOn then s.startRetire arg.toNat 0 else s.faultTest t
  | 5 => if s.laneAlive (fld arg 0 6) then s.prbsTest arg else s.faultTest t
  | 6 => if s.laneAlive (fld arg 0 6) then s.eyeOp (fld arg 0 6) else s.faultTest t
  | 7 => if s.domOn pdPipe then s.sweepStart else s.faultTest t
  | 8 => if s.segOn && s.segEn then s else s.faultTest t
  | 10 => s.endTest t s.openFail (BitVec.ofNat 32 s.elementsFailed)
  | _ => s.endTest t s.openFail 0#32

/-- SELFTEST: an OFFLINE test is answered by R26, after the edge that follows its end. -/
def State.selftestOp (s : State) (q : Msg) : State :=
  let t := fld (q.w 1) 0 8
  let arg := q.w 2
  let off := s.offline t arg
  s.judge 0x90#8 q
    [(s.testAbsent t arg, stAbsent),
     (decide (q.len < 3) || !onlyBits (q.w 1) 0x1FF || !s.testValid t arg, stInvalid),
     (s.marchBarred t arg || (off && (s.noLight || (s.fw.lamp == .lit && !bitOf (q.w 1) 8))), stDenied),
     (s.testBusy t, stBusy)]
    (fun s =>
      let s := { s with fw := { s.fw with test := some ⟨t, arg, off, s.extNs, 0⟩ } }
      (s.hold 0x90#8 q (.test t)).runTest t arg)

/-! ### LANE_CTRL (R262, R143) -/

/-- The lanes an action takes away from traffic. -/
def State.actionTakes (s : State) (a n : Nat) (w : Word) : List Nat :=
  match a with
  | 2 | 3 => [n]
  | 4 => [n / 2 * 2, n / 2 * 2 + 1].filter (fun m => s.f (aOf.laneCtrl m) 0 2 != fld w 0 2)
  | 5 => if bitOf w 0 then [n] else []
  | _ => []

/-- An action would leave a LIT slice with no lane, while the lamp is LIT: it takes the last of its lanes that are UP. -/
def State.strands (s : State) (a n : Nat) (w : Word) : Bool :=
  s.fw.lamp == .lit && (match s.sliceAt n with
    | none => false
    | some i =>
      let up := (s.sd i).lanes.filter (fun m => s.laneState m == lnUp)
      (s.sliceState i == slLit || s.sliceState i == slDegraded) && !up.isEmpty &&
      up.all (fun m => (s.actionTakes a n w).contains m))

/-- The registers with another RATE on both lanes of a pair. -/
def State.withRate (s : State) (k r : Nat) (a : Nat) : Word :=
  if a = aOf.laneCtrl (2 * k) ∨ a = aOf.laneCtrl (2 * k + 1) then setFld (s.view a) 0 2 r else s.view a

/-- A lane fails R138 at another RATE of pair `k`. -/
def State.rateOverloads (s : State) (k r : Nat) : Bool :=
  s.domOn pdPipe && !s.lanesOk (s.withRate k r) s.beam.setB s.periodInForce s.op

/-- A lane goes back to training. -/
def State.retrain (s : State) (n : Nat) : State := s.when (s.laneState n == lnUp || s.laneState n == lnFailed) (·.trainLane n)

/-- An action takes effect. -/
def State.laneAct (s : State) (a n : Nat) (w : Word) : State :=
  match a with
  | 0 => match s.sliceAt n with
    | some i => s.setSlice i { s.slice i with restore := true }
    | none => s
  | 1 => s.laneEnOp n true
  | 2 => s.laneEnOp n false
  | 3 => s.retrain n
  | 4 => ((s.laneRateOp (n / 2 * 2) (fld w 0 2)).laneRateOp (n / 2 * 2 + 1) (fld w 0 2)).writeFok true s.periodInForce s.op
  | 5 => s.laneTakeOp n (bitOf w 0)
  | _ => s

/-- LANE_CTRL: action 0 is answered by R26. -/
def State.laneCtrlOp (s : State) (q : Msg) : State :=
  let n := fld (q.w 1) 0 6
  let a := fld (q.w 1) 8 4
  let w := q.w 2
  let k := n / 2
  let oneLane := s.f (aOf.lnkPair k) 2 2 == 1 || s.f (aOf.lnkPair k) 2 2 == 2
  s.judge 0xA0#8 q
    [(decide (s.part.lanes ≤ n), stAbsent),
     (decide (q.len < 3) || !onlyBits (q.w 1) 0xF3F || decide (6 < a) || (a == 4 && (!onlyBits w 3 || s.rateOverloads k (fld w 0 2))) || (a == 5 && !onlyBits w 1), stInvalid),
     ((a == 0 && s.noLight) || (a != 6 && !s.laneOn n) || s.strands a n w ||
        (a == 0 && (s.laneState (2 * k) != lnUp || s.laneState (2 * k + 1) != lnUp)) ||
        (a == 4 && oneLane && !s.pairsKeep (s.withRate k (fld w 0 2)) s.periodInForce s.op), stDenied)]
    (fun s =>
      let s := s.laneAct a n w
      if a = 0 then s.hold 0xA0#8 q .nextEdge else s.reply 0xA0#8 q stOk 0 (s.laneReport n))

/-! ### POWER_VOTE (R263, R270, R274, R275) -/

/-- Kind 0: the host's vote on a domain. -/
def State.voteKind (s : State) (q : Msg) : State :=
  let d := fld (q.w 2) 0 4
  s.judge 0xB0#8 q
    [(absentDomain s.part d, stAbsent),
     (decide (q.len < 3) || !onlyBits (q.w 1) 3 || !onlyBits (q.w 2) 0x10F || d == 0 || decide (11 < d), stInvalid)]
    (fun s =>
      let s := (s.mark d 0 (bitOf (q.w 2) 8)).settlePower
      s.reply 0xB0#8 q stOk 0 [0#32, BitVec.ofNat 32 s.device])

/-- The operating point and period a request leads to, where it leads to one. -/
def State.leadsTo (s : State) (kind target : Nat) : Option (Nat × Nat) :=
  if kind = 2 then some ((if s.device = 4 then s.fw.items.framePeriod else s.periodNs), target)
  else if target = 3 then some (s.fw.items.framePeriod, s.fw.items.litOp)
  else if target = 4 then some (s.fw.items.burstPeriod, 3)
  else none

/-- The saves a HIBERNATE needs, PD_CRU losing its contents. -/
def State.hibernateSaves (s : State) : State :=
  let s := s.saveHours.logAppend
  let s := s.recSave 5 s.fw.items.body
  if s.domOn pdCru && s.bit aOf.pwrCtrl 1 then (s.saveWear 0).1 else s

/-- Kind 1 and kind 2: a request through the sequencer. HIBERNATE is answered before it is made; a request that lowers the
operating point from BURST is made once the LIT period is in force. HIBERNATE during a power-fail save, whose saves the NV store
refuses, is answered FAULT (DESIGN CHOICE, assumption 112); a load R138 refuses is INVALID (DEDUCED, assumption 120). -/
def State.requestKind (s : State) (kind : Nat) (q : Msg) : State :=
  let target := (q.w 2).toNat
  let lead := s.leadsTo kind target
  let bad := match lead with
    | some (p, op) => s.domOn pdPipe && decide (op ≤ 3) && !(kind == 2 && op == 3) &&
        !(s.admissible s.beam.setB p op && s.lanesOk s.view s.beam.setB p op)
    | none => false
  let starves := match lead with | some (p, op) => s.domOn pdPipe && !s.pairsKeep s.view p op | none => false
  s.judge 0xB0#8 q
    [(decide (q.len < 3) || !onlyBits (q.w 1) 3 || !reqValid kind 0 target || bad, stInvalid),
     ((kind == 1 && target == 1 && (s.fw.lamp != .off || s.dstate pdPipe != 0)) || starves, stDenied),
     (kind == 1 && target == 1 && s.nvRefuses, stFault)]
    (fun s =>
      if kind = 1 ∧ target = 1 then
        State.hibernateNow
          (let t := s.hibernateSaves.reply 0xB0#8 q stOk 0 [BitVec.ofNat 32 s.nextTicket, 1#32]
           { t with fw := { t.fw with hibernate := true } })
      else
        let lowers : Bool := match lead with | some (_, op) => decide (op < 3) | none => false
        if s.device = 4 ∧ lowers ∧ s.bit aOf.timeFctrl 0 then
          (s.periodOp (BitVec.ofNat 32 s.fw.items.framePeriod)).hold 0xB0#8 q (.reqEdge kind target)
        else
          let s := s.when (s.device == 4 && lowers) (fun s => s.periodOp (BitVec.ofNat 32 s.fw.items.framePeriod))
          (s.hold 0xB0#8 q (.ticket s.nextTicket)).request kind firmwareClient target)

/-- POWER_VOTE by its kind. -/
def State.powerVoteOp (s : State) (q : Msg) : State :=
  match fld (q.w 1) 0 2 with
  | 0 => s.voteKind q
  | 1 => s.requestKind 1 q
  | 2 => s.requestKind 2 q
  | _ => s.reply 0xB0#8 q stInvalid 0 []

/-! ### Commands -/

/-- FW_STAGE PHASE 0 (R260). -/
def execFwStageBegin (q : Msg) (s : State) : Res := done (s.begin.receive 0x80#8 (q.sel 0 4 0) (·.fwStageOp (q.sel 0 4 0)))

/-- FW_STAGE PHASE 1 (R260). -/
def execFwStageData (q : Msg) (s : State) : Res := done (s.begin.receive 0x80#8 (q.sel 0 4 1) (·.fwStageOp (q.sel 0 4 1)))

/-- FW_STAGE PHASE 2 (R260). -/
def execFwStageEnd (q : Msg) (s : State) : Res := done (s.begin.receive 0x80#8 (q.sel 0 4 2) (·.fwStageOp (q.sel 0 4 2)))

/-- SLOT_ERASE_END (R260): the slot reads as erased and BEGIN is answered. -/
def execSlotEraseEnd (s : State) : Res :=
  let s := s.begin
  match s.fw.fwXfer with
  | none => done s
  | some x => done (s.when (s.fwRuns && x.erasing) (fun s =>
      let lo := slotBase s.idleSlot
      let s := { s with cpu := { s.cpu with flash := tclear (fun a => decide (lo ≤ a) && decide (a < lo + 0x100000)) s.cpu.flash } }
      let s := s.setXfer .firmware (some { x with erasing := false })
      s.drawn.answerWhere (fun r => decide (r.wait = .erase)) stOk (fun _ _ => s.openWord)))

/-- FW_COMMIT (R260). -/
def execFwCommit (q : Msg) (s : State) : Res := done (s.begin.receive 0x81#8 q (·.fwCommitOp q))

/-- FW_HANDOVER (R260). -/
def execFwHandover (q : Msg) (s : State) : Res := done (s.begin.receive 0x82#8 q (·.fwHandoverOp q))

/-- SELFTEST 0x01 (R261). -/
def execSelftestMarchPreserving (q : Msg) (s : State) : Res := done (s.begin.receive 0x90#8 (q.sel 0 8 1) (·.selftestOp (q.sel 0 8 1)))

/-- SELFTEST 0x02 (R261). -/
def execSelftestMarchDestructive (q : Msg) (s : State) : Res := done (s.begin.receive 0x90#8 (q.sel 0 8 2) (·.selftestOp (q.sel 0 8 2)))

/-- SELFTEST 0x03 (R261). -/
def execSelftestScrub (q : Msg) (s : State) : Res := done (s.begin.receive 0x90#8 (q.sel 0 8 3) (·.selftestOp (q.sel 0 8 3)))

/-- SELFTEST 0x04 (R261). -/
def execSelftestBankRetire (q : Msg) (s : State) : Res := done (s.begin.receive 0x90#8 (q.sel 0 8 4) (·.selftestOp (q.sel 0 8 4)))

/-- SELFTEST 0x05 (R261). -/
def execSelftestLanePrbs (q : Msg) (s : State) : Res := done (s.begin.receive 0x90#8 (q.sel 0 8 5) (·.selftestOp (q.sel 0 8 5)))

/-- SELFTEST 0x06 (R261). -/
def execSelftestEyeScan (q : Msg) (s : State) : Res := done (s.begin.receive 0x90#8 (q.sel 0 8 6) (·.selftestOp (q.sel 0 8 6)))

/-- SELFTEST 0x07 (R261). -/
def execSelftestReadbackSweep (q : Msg) (s : State) : Res := done (s.begin.receive 0x90#8 (q.sel 0 8 7) (·.selftestOp (q.sel 0 8 7)))

/-- SELFTEST 0x08 (R261). -/
def execSelftestSegmentSweep (q : Msg) (s : State) : Res := done (s.begin.receive 0x90#8 (q.sel 0 8 8) (·.selftestOp (q.sel 0 8 8)))

/-- SELFTEST 0x09 (R261). -/
def execSelftestTestFrame (q : Msg) (s : State) : Res := done (s.begin.receive 0x90#8 (q.sel 0 8 9) (·.selftestOp (q.sel 0 8 9)))

/-- SELFTEST 0x0A (R261). -/
def execSelftestSensorCheck (q : Msg) (s : State) : Res := done (s.begin.receive 0x90#8 (q.sel 0 8 10) (·.selftestOp (q.sel 0 8 10)))

/-- SELFTEST 0x0B (R261). -/
def execSelftestPixelScan (q : Msg) (s : State) : Res := done (s.begin.receive 0x90#8 (q.sel 0 8 11) (·.selftestOp (q.sel 0 8 11)))

/-- LANE_CTRL action 0 (R143, R262). -/
def execLaneCtrlRestore (q : Msg) (s : State) : Res := done (s.begin.receive 0xA0#8 (q.sel 8 4 0) (·.laneCtrlOp (q.sel 8 4 0)))

/-- LANE_CTRL action 1 (R262). -/
def execLaneCtrlEnable (q : Msg) (s : State) : Res := done (s.begin.receive 0xA0#8 (q.sel 8 4 1) (·.laneCtrlOp (q.sel 8 4 1)))

/-- LANE_CTRL action 2 (R262). -/
def execLaneCtrlDisable (q : Msg) (s : State) : Res := done (s.begin.receive 0xA0#8 (q.sel 8 4 2) (·.laneCtrlOp (q.sel 8 4 2)))

/-- LANE_CTRL action 3 (R262). -/
def execLaneCtrlRetrain (q : Msg) (s : State) : Res := done (s.begin.receive 0xA0#8 (q.sel 8 4 3) (·.laneCtrlOp (q.sel 8 4 3)))

/-- LANE_CTRL action 4 (R143, R262). -/
def execLaneCtrlRate (q : Msg) (s : State) : Res := done (s.begin.receive 0xA0#8 (q.sel 8 4 4) (·.laneCtrlOp (q.sel 8 4 4)))

/-- LANE_CTRL action 5 (R262). -/
def execLaneCtrlTake (q : Msg) (s : State) : Res := done (s.begin.receive 0xA0#8 (q.sel 8 4 5) (·.laneCtrlOp (q.sel 8 4 5)))

/-- LANE_CTRL action 6 (R262). -/
def execLaneCtrlReport (q : Msg) (s : State) : Res := done (s.begin.receive 0xA0#8 (q.sel 8 4 6) (·.laneCtrlOp (q.sel 8 4 6)))

/-- POWER_VOTE kind 0 (R263). -/
def execPowerVoteDomain (q : Msg) (s : State) : Res := done (s.begin.receive 0xB0#8 (q.sel 0 2 0) (·.powerVoteOp (q.sel 0 2 0)))

/-- POWER_VOTE kind 1 (R263). -/
def execPowerVoteState (q : Msg) (s : State) : Res := done (s.begin.receive 0xB0#8 (q.sel 0 2 1) (·.powerVoteOp (q.sel 0 2 1)))

/-- POWER_VOTE kind 2 (R263). -/
def execPowerVoteOp (q : Msg) (s : State) : Res := done (s.begin.receive 0xB0#8 (q.sel 0 2 2) (·.powerVoteOp (q.sel 0 2 2)))

/-! ### Requests by their opcode -/

/-- What a request of an opcode of Table 11-2 does; an opcode not listed is INVALID. -/
def State.serve (op : BitVec 8) (q : Msg) (s : State) : State :=
  match op.toNat with
  | 0x01 => s.identifyOp q
  | 0x02 => s.getStatusOp q
  | 0x10 => s.configSetOp q
  | 0x11 => s.configGetOp q
  | 0x20 => s.lampStateOp q
  | 0x21 => s.patternSelectOp q
  | 0x22 => s.levelSetOp q
  | 0x23 => s.ingotStoreOp q
  | 0x30 => s.maskSetOp q
  | 0x40 => s.eventReadOp q
  | 0x41 => s.eventConfigOp q
  | 0x50 => s.timeStatusOp q
  | 0x51 => s.timeConfigOp q
  | 0x60 => s.calRunOp q
  | 0x61 => s.calReadOp q
  | 0x70 => s.nvReadOp q
  | 0x71 => s.nvWriteOp q
  | 0x72 => s.nvSaveNowOp q
  | 0x80 => s.fwStageOp q
  | 0x81 => s.fwCommitOp q
  | 0x82 => s.fwHandoverOp q
  | 0x90 => s.selftestOp q
  | 0xA0 => s.laneCtrlOp q
  | 0xB0 => s.powerVoteOp q
  | 0xC0 => s.logReadOp q
  | _ => s.reply op q stInvalid 0 []

/-- A request stamped `t`, with an opcode, reaches the device. -/
def State.receiveRaw (s : State) (t : Word) (m : RawMsg) : State :=
  s.when (s.alive && s.domOn pdCtrl && s.routeUp m.msg.route) (·.receiveAt t m.opcode m.msg (State.serve m.opcode m.msg))

end Sys2Proof.Machine
end

