-- ==== Sys2Proof/Machine/HostPorts.lean ====
section
/-! DEFINITION. The host ports (R16 to R18, R55, R178, R236): the classifier of received frames, transmitted frames and
their stamps, link and wake events, and the commands of that family. -/

namespace Sys2Proof.Machine

open Sys2Proof

/-- The event of Table 01-10 at place `n` of a port. -/
def State.portEvent (s : State) (p : Port) (n : Nat) : State := s.raise (80 + 16 * p.idx + n)

/-- A port that can receive and send. -/
def State.portOn (s : State) (p : Port) : Bool :=
  s.alive && s.part.hasPort p && s.domOn (pdHost p) && !(s.hostPort p).inReset

/-- A frame no row of Table 01-2 takes (R16). -/
def State.rxDrop (s : State) (p : Port) : State := (s.countDrop p).portEvent p 1

/-- The first two tests of R55: an AVTP stream frame of the Vendor Specific Format. -/
def isVsf (f : RxFrame) : Bool :=
  f.etherType == 0x22F0#16 && f.subtype == 0x6F#8 && f.version == 0#3 && f.sv

/-- The tests of R55 on the receiving port's registers. -/
def State.pourTest (s : State) (p : Port) (f : RxFrame) : Bool :=
  f.streamId == wide (s.rd (aOf.pourSidh p.idx)) (s.rd (aOf.pourSidl p.idx)) && s.bit aOf.pourCtrl p.idx

/-- AVTP sequence_num is checked for gaps only (R55). -/
def State.avtpGap (s : State) (p : Port) (n : BitVec 8) : State :=
  let gap := match s.pour.lastAvtp.find? (fun e => decide (e.1 = p)) with
    | some e => n != e.2 + 1#8
    | none => false
  let s := s.when gap (fun s => s.bump aOf.pourErrcnt 0 16 1)
  { s with pour := { s.pour with lastAvtp := (p, n) :: s.pour.lastAvtp.filter (fun e => !decide (e.1 = p)) } }

/-- The active core is told of a frame that waits in the Tundish for firmware (R210). -/
def State.notify (s : State) : State := s.emit (.notify s.active.idx)

/-- A control frame reaches firmware with its MAC stamp (R178). -/
def State.controlFrame (s : State) (bytes : List Byte) : State :=
  let s := s.notify
  { s.drawn with fw := { s.fw with ctlFrames := s.fw.ctlFrames ++ [(bytes, s.macStamp)] } }

/-- A good frame, at most one VLAN tag removed, goes where Table 01-2 sends it: gPTP to firmware with its stamp, a pour fragment to the pour engine or,
with PD_PIPE off, nowhere (R17), Adquel messages of the control stream to firmware, control frames to firmware. -/
def State.classify (s : State) (p : Port) (f : RxFrame) : State :=
  if 1 < f.tags.length then s.rxDrop p
  else match f.body with
  | .gptp bytes =>
    if f.etherType = 0x88F7#16 then
      let s := s.notify
      let t := s.macStamp
      s.drawn.setHostPort p { s.hostPort p with gptp := (s.hostPort p).gptp ++ [(bytes, t)] }
    else s.rxDrop p
  | .macsecCtl bytes => if f.etherType = 0x888E#16 then s.controlFrame bytes else s.rxDrop p
  | .vsf n frag =>
    if !isVsf f then s.rxDrop p
    else if !s.domOn pdPipe then s.discardPour p
    else if !s.pourTest p f then s.rxDrop p
    else
      let t := s.stampOf false
      let s := s.drawn.avtpGap p n
      { s with pour := { s.pour with ingress := mergeIn (·.port.idx) t { frag with port := p } s.pour.ingress } }
  | .ntscf msgs =>
    if f.etherType = 0x22F0#16 ∧ f.subtype = 0x82#8 ∧ msgs ≠ [] then
      s.when (f.streamId == s.fw.items.ctrlSid) (fun s =>
        let t := stampNs s.macStamp
        msgs.foldl (fun s m => s.receiveRaw t { m with msg := { m.msg with route := .port p, mac := f.srcMac, vlan := f.tags.head? } })
          s.notify.drawn)
    else s.rxDrop p
  | .other => s.rxDrop p

/-- What a port makes of a received frame, with `f` for a good one. -/
def State.received (s : State) (p : Port) (chk : RxCheck) (f : State → State) : State :=
  if s.portOn p && (s.hostPort p).up then
    match chk with
    | .badFcs => s.portEvent p 3
    | .macsecFail => s.portEvent p 4
    | .fifoFull => s.portEvent p 2
    | .good => f s
  else s

/-- FRAME_RECEIVE (R16 to R18, R55). -/
def execFrameReceive (p : Port) (chk : RxCheck) (f : RxFrame) (s : State) : Res :=
  done (s.begin.received p chk (·.classify p f))

/-- MACSEC_CONTROL_FRAME (R16). -/
def execMacsecControlFrame (p : Port) (chk : RxCheck) (bytes : List Byte) (s : State) : Res :=
  done (s.begin.received p chk (·.controlFrame bytes))

/-- HOST_FRAME_TRANSMIT (R18, R178, R179): a gPTP event message is stamped; the packet number of the secure association
may reach its limit. -/
def execHostFrameTransmit (p : Port) (ev : Option GptpTag) (pnLimit : Bool) (s : State) : Res :=
  let s := s.begin
  done (s.when (s.portOn p && (s.hostPort p).up) (fun s =>
    let s := s.emit (.frame p)
    let s := match ev with | some t => s.txStamp p t | none => s
    s.when pnLimit (·.portEvent p 5)))

/-- LINK (R18). -/
def execLink (p : Port) (ev : LinkEvent) (s : State) : Res :=
  let s := s.begin
  done (s.when (s.portOn p) (fun s =>
    let h := s.hostPort p
    let s := match ev with
      | .up => s.setHostPort p { h with up := true }
      | .down => s.setHostPort p { h with up := false }
      | .newRate => s
    s.portEvent p 0))

/-- PHY_WAKE (R18): HWAKEp_N falls while PD_HOSTp is ON. -/
def execPhyWake (p : Port) (s : State) : Res :=
  let s := s.begin
  done (s.when (s.alive && s.part.hasPort p && s.domOn (pdHost p)) (·.portEvent p 6))

end Sys2Proof.Machine
end

