-- ==== Sys2Proof/Machine/Mbx.lean ====
section
/-! DEFINITION. Messages firmware reads from the mailboxes word by word (R210, R220, R221, R224, R235), the order in which it
serves those that wait (R24, R240), and MAILBOX_POP. -/

namespace Sys2Proof.Machine

open Sys2Proof

/-- A message of the host as its words in a mailbox spell it (Table 10-7). -/
def rawOf (h : Word) (ws : List Word) : RawMsg :=
  { opcode := BitVec.ofNat 8 (fld h 24 8)
    msg := { route := .spi, mac := 0#48, vlan := none, seq := BitVec.ofNat 8 (fld h 16 8), gen := BitVec.ofNat 4 (fld h 12 4)
             urgent := bitOf h 10, reply := bitOf h 8, rsvd := bitOf h 11 || fld h 4 4 != 0, ws := ws } }

/-- A word of HMB in stamped `t` has been read by the active core: the word that makes its message whole lets firmware take
it, stamped with that word (R24). -/
def State.hmbWord (s : State) (t v : Word) : State :=
  let ws := s.fw.hmbIn ++ [v]
  let s (l : List Word) : State := { s with fw := { s.fw with hmbIn := l } }
  match ws with
  | [] => s []
  | h :: r => if ws.length = msgLen h then (s []).receiveRaw t (rawOf h r) else s ws

/-- The messages `ws` spells, each with the stamp of its last word, words left over at its end apart. -/
def splitMsgs : Nat → List (Word × Word) → List (Word × RawMsg)
  | 0, _ => []
  | _, [] => []
  | n + 1, (t, h) :: r =>
    let body := r.take (msgLen h - 1)
    (((t, h) :: body).getLast?.map (·.1) |>.getD t, rawOf h (body.map (·.2))) :: splitMsgs n (r.drop (msgLen h - 1))

/-- The words of FIFO `d` that OLDW counts are read (R224). -/
def State.takeOld (s : State) (d : Nat) : State × List (Word × Word) :=
  let n := s.oldw d
  let f := s.fifo d
  ((List.range n).foldl (fun s _ => s.popWord d) s, (f.stamps.zip f.words).take n)

/-- Firmware after its own reset reads the first OLDW words of HMB in and XMB in (R224): it discards the replies among them and
keeps the host's requests to serve. Words of XMB are firmware's own and change nothing here. -/
def State.readOld (s : State) : State :=
  let (s, ws) := s.takeOld 0
  let (s, _) := s.takeOld (readsFifo (2 + s.active.idx))
  let ms := (splitMsgs ws.length ws).filter (fun m => !m.2.msg.reply)
  { s with fw := { s.fw with
      hmbIn := [], inbox := ms.foldl (fun l m => mergeIn (fun m => routeRank m.msg.route) m.1 m.2 l) s.fw.inbox } }

/-- The messages of a list are served in order. -/
def serveAll : List (Word × RawMsg) → State → State
  | [], s => s
  | m :: r, s => serveAll r (s.receiveRaw m.1 m.2)

/-- Messages that waited in firmware are served in merge order, URGENT ones first (R24, R221, R240). -/
def serveInbox (box : List (Word × RawMsg)) (s : State) : State :=
  serveAll (box.filter (·.2.msg.urgent) ++ box.filter (!·.2.msg.urgent)) s

/-- MAILBOX_POP (R220): an empty FIFO gives 0, with BUSY over SPI or a bus error. What the active core reads of HMB in reaches
the program it runs. -/
def execMailboxPop (r : MbxAgent) (d : Fin 4) (s : State) : Res :=
  let s := s.begin
  let f := s.fifo d.val
  let v := if f.visible = 0 then 0#32 else f.words.headD 0#32
  match r with
  | .host => done (s.when (s.alive && d.val == 1) (fun s =>
      if f.visible = 0 then s.spiEnd false stBusy 0#32
      else
        let s := (s.popWord 1).spiEnd false 0 v
        s.when s.fwRuns (fun s => (drainOutbox s.fw.outbox.length s).hibernateNow)))
  | .core c => done (s.when (s.alive && s.domOn pdCtrl) (fun s =>
      if s.mbxReader d.val ≠ some c then s.emit .busError
      else if f.visible = 0 then (s.emit (.data 0#32)).emit .busError
      else
        let s := (s.popWord d.val).emit (.data v)
        s.when (d.val == 0 && (s.fw.started || s.inRecovery)) (·.hmbWord (f.stamps.headD 0#32) v)))

end Sys2Proof.Machine
end

