-- ==== Sys2Proof/Machine/Boot.lean ====
section
/-! DEFINITION. The Boot ROM and the start of firmware (R200, R212 to R218, R290, R300 to R303), and the commands of
that family. -/

namespace Sys2Proof.Machine

open Sys2Proof

/-! ### Boot ROM (R212 to R216) -/

/-- A slot's reject code is recorded in REJA or REJB; event 907 where there is one (Table 10-4). -/
def State.recordReject (s : State) (slot code : Nat) : State :=
  (s.setF aOf.sysBoot (24 + slot % 2 * 4) 4 code).when (code != 0) (·.raise 907)

/-- Each slot is tried in order until one passes every check; `errs` are those whose flash read met an xSPI error. -/
def State.trySlots (s : State) (errs : List Nat) : List Nat → State × Option Nat
  | [] => (s, none)
  | k :: r =>
    let code := s.slotCode k (errs.contains k)
    let s := s.recordReject k code
    if code = 0 then (s, some k) else s.trySlots errs r

/-- The stages the boot status word shows while slots are tried: reading, and verifying once a slot has been read (Table 10-4,
Timing 10-1). -/
def State.tryStages (s : State) (errs : List Nat) : List Nat → State
  | [] => s
  | k :: r =>
    let code := s.slotCode k (errs.contains k)
    let s := (s.setStage 2).when (code != 1 && code != 2) (·.setStage 3)
    if code = 0 then s else s.tryStages errs r

/-- The slots BOOTSEL permits, in order (R213). -/
def State.bootOrder (s : State) : List Nat :=
  match s.fuses.straps.bootsel.toNat with
  | 0 => [s.preferred, 1 - s.preferred]
  | 1 => [0]
  | 2 => [1]
  | _ => []

/-- In lifecycle RETURN the lamp is held in DARK (Table 10-3). -/
def State.holdDark (s : State) : State :=
  s.when (s.fwRuns && s.fuses.lifecycle == .returned && s.domOn pdPipe && s.fw.lamp != .off && s.fw.lamp != .dark) (·.cutTo .dark)

/-- The active core boots by BOOTSEL; STAGE 4 with an image, 5 in recovery. -/
def State.bootActive (s : State) (errs : List Nat) : State :=
  let (t, slot) := (((s.recEvents 0).setF aOf.sysBoot 24 8 0).tryStages errs s.bootOrder).trySlots errs s.bootOrder
  match slot with
  | some k =>
    let t := t.runSlot s.active k
    ({ t with cpu := { t.cpu with bootSlot := k } }).showBoot.setStage 4
  | none => (t.setCore s.active .recovery).showBoot.setStage 5

/-- The standby core boots the slot the active core named and no other; where that fails during a handover the
handover is abandoned (R213, R218). -/
def State.bootStandby (s : State) (errs : List Nat) : State :=
  let c := s.active.other
  let (t, slot) := s.trySlots errs [s.cpu.bootSlot]
  match slot with
  | some k => (t.runSlot c k).showBoot.holdDark
  | none => t.when t.cpu.handover.isSome (·.abandonHandover)

/-- A core stands in the Boot ROM, out of reset. -/
def State.inRom (s : State) (c : Core) : Bool :=
  s.alive && s.domOn pdCtrl && !s.pins.hostrstLow && s.core c == .rom

/-- BOOT_ROM_RUN (R212, R213, R215, R216): firmware of the active core releases the standby core. -/
def execBootRomRun (c : Core) (s : State) (xspiError : List Nat := []) : Res :=
  let s := s.begin
  done (s.when (s.inRom c) (fun s =>
    if c = s.active then s.bootActive xspiError else s.when s.fw.started (·.bootStandby xspiError)))

/-! ### The start of firmware (R290, R300 to R303, R307) -/

/-- The configuration record, or the defaults. -/
def State.loadItems (s : State) : State :=
  { s with fw := { s.fw with items := match s.recLoad 5 with | some bs => itemsOf bs | none => Items.reset } }

/-- The boot count advances. -/
def State.countBoot (s : State) : State :=
  let n := match s.recLoad 1 with | some bs => (bodyWord bs 1).toNat | none => 0
  { s with fw := { s.fw with bootCount := n + 1 } }

/-- It is saved in the boot record. -/
def State.saveBoot (s : State) : State := s.when (!s.nvRefuses) (fun s => s.recSave 1 (bootBody s.preferred s.fw.bootCount))

/-- The records firmware loads at boot, in order (Table 13-3). -/
def bootRecords : List Nat := [1, 2, 3, 4, 5, 6, 7] ++ (List.range 14).map (· + 0x10)

/-- PWR_PWRSEC and PWR_LITSEC from the operating-hours record (R307), and the copies in force of the hours and the wear
with their sequences (R291). -/
def State.loadCounters (s : State) : State :=
  let s := match s.recLoad 2 with
    | some bs => (s.wr aOf.pwrPwrsec (bodyWord bs 0)).wr aOf.pwrLitsec (bodyWord bs 1)
    | none => s
  let s := { s with fw := { s.fw with litSaved := (s.rd aOf.pwrLitsec).toNat } }
  let s := match s.recInForce 2 with
    | some c => (s.setF aOf.nvcWear 1 1 c).wr aOf.nvcHseq (s.recSeq 2 c)
    | none => s
  match s.recInForce 4 with
  | some c => (s.setF aOf.nvcWear 0 1 c).wr aOf.nvcWseq (s.recSeq 4 c)
  | none => s

/-- Firmware opens the Tundish to Ethernet ingress and to the Fettler port, which carry R16 and R146. -/
def State.openTundish (s : State) : State := (s.wr (aOf.tunRgn 64) 0xE07F0000#32).wr (aOf.tunRgn 80) 0xE07F0000#32

/-- A valid Ingot is stored. -/
def State.ingotStored (s : State) : Bool := match s.ingot with | some bs => ingotOk bs | none => false

/-- Firmware at ENTRY as the active core: the records in order, the Crucible map, the sensors, the edges; at the first
start after power-up AUTOLIGHT brings the Ingot, or in lifecycle RETURN a DARK lamp (Table 10-3), and the edges come with it (R300
step 5, R302). -/
def State.startActive (s : State) : State :=
  let first := s.fw.bootCount == 0
  let s := s.logFind.countBoot
  let s := { s with fw := { s.fw with started := true, tseg := 0, servo := { Servo.reset with baseNs := s.fw.servo.baseNs } }
                    port0 := { s.port0 with gptp := [] }, port1 := { s.port1 with gptp := [] } }
  let s := (bootRecords.foldl (·.recEvents ·) s).loadItems.loadCounters.saveBoot
  let s := s.when (!s.domOn pdPipe) (·.restoreMap)
  let s := (List.range 16).foldl (·.loadSensor ·) s
  let s := s.when first (·.openTundish)
  let s := s.when first (fun s => [0, 1, 2, 3, 11].foldl (fun s d => s.when (s.domOn d) (·.configRegs d)) s)
  let light := first && s.fuses.straps.autolight && s.fw.lamp == .off && s.fw.leaving.isNone && s.ingotStored
  let s := s.when (!light) (·.startEdges)
  let s := s.readOld
  let box := s.fw.inbox
  let s := { s with fw := { s.fw with inbox := [] } }
  serveInbox box ((s.when light (·.depart (if s.fuses.lifecycle = .returned then .dark else .ingot))).holdDark)

/-- Firmware on the standby core has taken the mirrored state: STBY_RDY, and in a handover the swap is asked for
(R217). -/
def State.startStandby (s : State) : State :=
  let s := s.setBit aOf.sysRole 4 true
  s.when s.cpu.handover.isSome (·.setBit aOf.sysRole 9 true)

/-- Core `c` runs an image: one the Boot ROM accepted, or, where this command comes with the core still in the Boot ROM,
one whose header no command showed. -/
def State.atEntry (s : State) (c : Core) : State :=
  if s.core c = .rom then
    let s := s.setCore c (.running (s.imageOn c))
    s.when (decide (c = s.active)) (·.showBoot.setStage 4)
  else s

/-- Firmware can be at ENTRY on core `c`. -/
def State.canEnter (s : State) (c : Core) : Bool :=
  s.alive && s.domOn pdCtrl && !s.pins.hostrstLow && s.core c != .reset && s.core c != .recovery &&
  (if c = s.active then !s.fw.started else s.fw.started && !s.bit aOf.sysRole 4)

/-- FIRMWARE_START (R217, R290, R300 to R303). -/
def execFirmwareStart (c : Core) (s : State) : Res :=
  let s := s.begin
  done (s.when (s.canEnter c) (fun s =>
    let s := s.atEntry c
    if c = s.active then s.startActive else s.startStandby))

end Sys2Proof.Machine
end

