-- ==== Sys2Proof/Machine/Dispatch.lean ====
section
/-! DEFINITION. One arm for each command, calling its meaning. -/

namespace Sys2Proof.Machine

open Sys2Proof

/-- The effect of a command on everything but the queue. -/
def exec (i : Instr) (s : State) : Host.Outcome State Fault Refusal :=
  match i with
  | .registerWrite m addr v => Sys2Proof.Machine.execRegisterWrite m addr v s
  | .frameReceive p chk f => Sys2Proof.Machine.execFrameReceive p chk f s
  | .macsecControlFrame p chk bytes => Sys2Proof.Machine.execMacsecControlFrame p chk bytes s
  | .hostFrameTransmit p ev pnLimit => Sys2Proof.Machine.execHostFrameTransmit p ev pnLimit s
  | .link p ev => Sys2Proof.Machine.execLink p ev s
  | .phyWake p => Sys2Proof.Machine.execPhyWake p s
  | .writeRect f => Sys2Proof.Machine.execWriteRect f s
  | .fillRect f => Sys2Proof.Machine.execFillRect f s
  | .maskSet f => Sys2Proof.Machine.execMaskSet f s
  | .maskClear f => Sys2Proof.Machine.execMaskClear f s
  | .patternWrite f => Sys2Proof.Machine.execPatternWrite f s
  | .glyphWrite f => Sys2Proof.Machine.execGlyphWrite f s
  | .layerSet f => Sys2Proof.Machine.execLayerSet f s
  | .meshWrite f => Sys2Proof.Machine.execMeshWrite f s
  | .tableWrite f => Sys2Proof.Machine.execTableWrite f s
  | .segWrite f => Sys2Proof.Machine.execSegWrite f s
  | .fence f => Sys2Proof.Machine.execFence f s
  | .abortPour f => Sys2Proof.Machine.execAbortPour f s
  | .pourFragment f => Sys2Proof.Machine.execPourFragment f s
  | .fragTimeout key => Sys2Proof.Machine.execFragTimeout key s
  | .tileMerge key tile faults => Sys2Proof.Machine.execTileMerge key tile s faults
  | .storeCopyEnd => Sys2Proof.Machine.execStoreCopyEnd s
  | .tablePourWrite => Sys2Proof.Machine.execTablePourWrite s
  | .tablePourWriteEnd => Sys2Proof.Machine.execTablePourWriteEnd s
  | .setSyncEnd faults => Sys2Proof.Machine.execSetSyncEnd s faults
  | .fenceComplete => Sys2Proof.Machine.execFenceComplete s
  | .pourResultPop => Sys2Proof.Machine.execPourResultPop s
  | .flush => Sys2Proof.Machine.execFlush s
  | .flushEnd => Sys2Proof.Machine.execFlushEnd s
  | .streamEnable p => Sys2Proof.Machine.execStreamEnable p s
  | .frameStartEdge => Sys2Proof.Machine.execFrameStartEdge s
  | .maskExpiry k => Sys2Proof.Machine.execMaskExpiry k s
  | .frameLaunch => Sys2Proof.Machine.execFrameLaunch s
  | .lineScan row err => Sys2Proof.Machine.execLineScan row err s
  | .poisonHalt => Sys2Proof.Machine.execPoisonHalt s
  | .maskLineBoundary => Sys2Proof.Machine.execMaskLineBoundary s
  | .tileRowUpdate row faults => Sys2Proof.Machine.execTileRowUpdate row s faults
  | .temperTick => Sys2Proof.Machine.execTemperTick s
  | .burstExhausted => Sys2Proof.Machine.execBurstExhausted s
  | .shedEnd => Sys2Proof.Machine.execShedEnd s
  | .temperStep => Sys2Proof.Machine.execTemperStep s
  | .ackReceive n b => Sys2Proof.Machine.execAckReceive n b s
  | .rbdReceive n b => Sys2Proof.Machine.execRbdReceive n b s
  | .almReceive n b => Sys2Proof.Machine.execAlmReceive n b s
  | .calReceive n b => Sys2Proof.Machine.execCalReceive n b s
  | .fomReceive n b => Sys2Proof.Machine.execFomReceive n b s
  | .synReceive n b => Sys2Proof.Machine.execSynReceive n b s
  | .blockLockGain n => Sys2Proof.Machine.execBlockLockGain n s
  | .blockLockLoss n => Sys2Proof.Machine.execBlockLockLoss n s
  | .laneSignalDetect n => Sys2Proof.Machine.execLaneSignalDetect n s
  | .laneSignalLoss n => Sys2Proof.Machine.execLaneSignalLoss n s
  | .laneRecover n => Sys2Proof.Machine.execLaneRecover n s
  | .presetStep n => Sys2Proof.Machine.execPresetStep n s
  | .trainTimeout n => Sys2Proof.Machine.execTrainTimeout n s
  | .detectHoldoffEnd n => Sys2Proof.Machine.execDetectHoldoffEnd n s
  | .mgmtBlockSend sl => Sys2Proof.Machine.execMgmtBlockSend sl s
  | .calLoadStart sl => Sys2Proof.Machine.execCalLoadStart sl s
  | .calLoadTimeout sl => Sys2Proof.Machine.execCalLoadTimeout sl s
  | .lnkCalDoneClear => Sys2Proof.Machine.execLnkCalDoneClear s
  | .readbackTimeout sl => Sys2Proof.Machine.execReadbackTimeout sl s
  | .errorLimit n => Sys2Proof.Machine.execErrorLimit n s
  | .errorInject n burst => Sys2Proof.Machine.execErrorInject n burst s
  | .eyeScan n => Sys2Proof.Machine.execEyeScan n s
  | .eyeScanEnd n width height => Sys2Proof.Machine.execEyeScanEnd n width height s
  | .laneEnWrite n en => Sys2Proof.Machine.execLaneEnWrite n en s
  | .laneTakeWrite n take => Sys2Proof.Machine.execLaneTakeWrite n take s
  | .laneRateWrite n rate => Sys2Proof.Machine.execLaneRateWrite n rate s
  | .linkEnWrite en => Sys2Proof.Machine.execLinkEnWrite en s
  | .segmentFrameStart => Sys2Proof.Machine.execSegmentFrameStart s
  | .segmentSlot checks => Sys2Proof.Machine.execSegmentSlot checks s
  | .segmentEnable => Sys2Proof.Machine.execSegmentEnable s
  | .segmentDisable => Sys2Proof.Machine.execSegmentDisable s
  | .vlcdFault => Sys2Proof.Machine.execVlcdFault s
  | .vlcdOkSet => Sys2Proof.Machine.execVlcdOkSet s
  | .vsrcWrite v => Sys2Proof.Machine.execVsrcWrite v s
  | .timeSet v => Sys2Proof.Machine.execTimeSet v s
  | .timeAdj v => Sys2Proof.Machine.execTimeAdj v s
  | .adjustEnd => Sys2Proof.Machine.execAdjustEnd s
  | .timeNsRead => Sys2Proof.Machine.execTimeNsRead s
  | .timeNsWrap => Sys2Proof.Machine.execTimeNsWrap s
  | .frameEdgesEnable => Sys2Proof.Machine.execFrameEdgesEnable s
  | .frameEdgesDisable => Sys2Proof.Machine.execFrameEdgesDisable s
  | .periodWrite v => Sys2Proof.Machine.execPeriodWrite v s
  | .txqPop p => Sys2Proof.Machine.execTxqPop p s
  | .syncPinEdge k rising => Sys2Proof.Machine.execSyncPinEdge k rising s
  | .syncMsg p m => Sys2Proof.Machine.execSyncMsg p m s
  | .followUp p m => Sys2Proof.Machine.execFollowUp p m s
  | .announce p m => Sys2Proof.Machine.execAnnounce p m s
  | .pdelayReq p m => Sys2Proof.Machine.execPdelayReq p m s
  | .pdelayResp p m => Sys2Proof.Machine.execPdelayResp p m s
  | .pdelayRespFollowUp p m => Sys2Proof.Machine.execPdelayRespFollowUp p m s
  | .signaling p m => Sys2Proof.Machine.execSignaling p m s
  | .syncReceiptTimeout => Sys2Proof.Machine.execSyncReceiptTimeout s
  | .gridAlign offset => Sys2Proof.Machine.execGridAlign offset s
  | .crucibleWindowAccess m off wr ecc spareBad => Sys2Proof.Machine.execCrucibleWindowAccess m off wr ecc spareBad s
  | .scrubRead off bit => Sys2Proof.Machine.execScrubRead off bit s
  | .columnFillEnd faults => Sys2Proof.Machine.execColumnFillEnd s faults
  | .scrubPassEnd => Sys2Proof.Machine.execScrubPassEnd s
  | .bankRetire bank bad => Sys2Proof.Machine.execBankRetire bank bad s
  | .retirementQueuedStart bad => Sys2Proof.Machine.execRetirementQueuedStart bad s
  | .retirementCopyEnd spareBad faults => Sys2Proof.Machine.execRetirementCopyEnd s spareBad faults
  | .retirementMarchEnd pass => Sys2Proof.Machine.execRetirementMarchEnd pass s
  | .tundishBatch reqs => Sys2Proof.Machine.execTundishBatch reqs s
  | .tunLockRead m n => Sys2Proof.Machine.execTunLockRead m n s
  | .tunLockWrite m n v => Sys2Proof.Machine.execTunLockWrite m n v s
  | .marchRun first last preserving => Sys2Proof.Machine.execMarchRun first last preserving s
  | .marchBlockDone pass => Sys2Proof.Machine.execMarchBlockDone pass s
  | .marchEnd => Sys2Proof.Machine.execMarchEnd s
  | .bootRomRun c xspiError => Sys2Proof.Machine.execBootRomRun c s xspiError
  | .firmwareStart c => Sys2Proof.Machine.execFirmwareStart c s
  | .arbTargetWrite m target => Sys2Proof.Machine.execArbTargetWrite m target s
  | .roleSwap m => Sys2Proof.Machine.execRoleSwap m s
  | .swapApply => Sys2Proof.Machine.execSwapApply s
  | .handoverTimeout => Sys2Proof.Machine.execHandoverTimeout s
  | .watchdogKick c v => Sys2Proof.Machine.execWatchdogKick c v s
  | .watchdogExpire c => Sys2Proof.Machine.execWatchdogExpire c s
  | .takeover => Sys2Proof.Machine.execTakeover s
  | .mailboxPost w d v => Sys2Proof.Machine.execMailboxPost w d v s
  | .mailboxPop r d => Sys2Proof.Machine.execMailboxPop r d s
  | .hostGenerationWrite v => Sys2Proof.Machine.execHostGenerationWrite v s
  | .doorbellSet a t bits => Sys2Proof.Machine.execDoorbellSet a t bits s
  | .doorbellClear a t bits => Sys2Proof.Machine.execDoorbellClear a t bits s
  | .heartbeat => Sys2Proof.Machine.execHeartbeat s
  | .spiStatus f => Sys2Proof.Machine.execSpiStatus s f
  | .debugWindowRead addr inTime => Sys2Proof.Machine.execDebugWindowRead addr s inTime
  | .debugWindowWrite addr v => Sys2Proof.Machine.execDebugWindowWrite addr v s
  | .debugAccessComplete => Sys2Proof.Machine.execDebugAccessComplete s
  | .dbgBaseWrite v => Sys2Proof.Machine.execDbgBaseWrite v s
  | .eventSoftwareSet src => Sys2Proof.Machine.execEventSoftwareSet src s
  | .eventEnableWrite k v => Sys2Proof.Machine.execEventEnableWrite k v s
  | .identify q => Sys2Proof.Machine.execIdentify q s
  | .getStatus q => Sys2Proof.Machine.execGetStatus q s
  | .statusMsg => Sys2Proof.Machine.execStatusMsg s
  | .configSet q => Sys2Proof.Machine.execConfigSet q s
  | .configGet q => Sys2Proof.Machine.execConfigGet q s
  | .lampState q => Sys2Proof.Machine.execLampState q s
  | .patternSelect q => Sys2Proof.Machine.execPatternSelect q s
  | .levelSet q => Sys2Proof.Machine.execLevelSet q s
  | .ingotStoreBegin q => Sys2Proof.Machine.execIngotStoreBegin q s
  | .ingotStoreData q => Sys2Proof.Machine.execIngotStoreData q s
  | .ingotStoreEnd q => Sys2Proof.Machine.execIngotStoreEnd q s
  | .maskSetMessage q => Sys2Proof.Machine.execMaskSetMessage q s
  | .eventRead q => Sys2Proof.Machine.execEventRead q s
  | .eventConfig q => Sys2Proof.Machine.execEventConfig q s
  | .timeStatus q => Sys2Proof.Machine.execTimeStatus q s
  | .timeConfigThr q => Sys2Proof.Machine.execTimeConfigThr q s
  | .timeConfigSlew q => Sys2Proof.Machine.execTimeConfigSlew q s
  | .timeConfigHoldover q => Sys2Proof.Machine.execTimeConfigHoldover q s
  | .timeConfigAsym q => Sys2Proof.Machine.execTimeConfigAsym q s
  | .timeConfigLat q => Sys2Proof.Machine.execTimeConfigLat q s
  | .timeConfigJoin q => Sys2Proof.Machine.execTimeConfigJoin q s
  | .timeConfigWindow q => Sys2Proof.Machine.execTimeConfigWindow q s
  | .calRun q => Sys2Proof.Machine.execCalRun q s
  | .calRead q => Sys2Proof.Machine.execCalRead q s
  | .nvRead q faults => Sys2Proof.Machine.execNvRead q s faults
  | .nvWrite q => Sys2Proof.Machine.execNvWrite q s
  | .nvSaveNow q => Sys2Proof.Machine.execNvSaveNow q s
  | .fwStageBegin q => Sys2Proof.Machine.execFwStageBegin q s
  | .fwStageData q => Sys2Proof.Machine.execFwStageData q s
  | .fwStageEnd q => Sys2Proof.Machine.execFwStageEnd q s
  | .transferTimeout k => Sys2Proof.Machine.execTransferTimeout k s
  | .fwCommit q => Sys2Proof.Machine.execFwCommit q s
  | .fwHandover q => Sys2Proof.Machine.execFwHandover q s
  | .selftestMarchPreserving q => Sys2Proof.Machine.execSelftestMarchPreserving q s
  | .selftestMarchDestructive q => Sys2Proof.Machine.execSelftestMarchDestructive q s
  | .selftestScrub q => Sys2Proof.Machine.execSelftestScrub q s
  | .selftestBankRetire q => Sys2Proof.Machine.execSelftestBankRetire q s
  | .selftestLanePrbs q => Sys2Proof.Machine.execSelftestLanePrbs q s
  | .selftestEyeScan q => Sys2Proof.Machine.execSelftestEyeScan q s
  | .selftestReadbackSweep q => Sys2Proof.Machine.execSelftestReadbackSweep q s
  | .selftestSegmentSweep q => Sys2Proof.Machine.execSelftestSegmentSweep q s
  | .selftestTestFrame q => Sys2Proof.Machine.execSelftestTestFrame q s
  | .selftestSensorCheck q => Sys2Proof.Machine.execSelftestSensorCheck q s
  | .selftestPixelScan q => Sys2Proof.Machine.execSelftestPixelScan q s
  | .laneCtrlRestore q => Sys2Proof.Machine.execLaneCtrlRestore q s
  | .laneCtrlEnable q => Sys2Proof.Machine.execLaneCtrlEnable q s
  | .laneCtrlDisable q => Sys2Proof.Machine.execLaneCtrlDisable q s
  | .laneCtrlRetrain q => Sys2Proof.Machine.execLaneCtrlRetrain q s
  | .laneCtrlRate q => Sys2Proof.Machine.execLaneCtrlRate q s
  | .laneCtrlTake q => Sys2Proof.Machine.execLaneCtrlTake q s
  | .laneCtrlReport q => Sys2Proof.Machine.execLaneCtrlReport q s
  | .powerVoteDomain q => Sys2Proof.Machine.execPowerVoteDomain q s
  | .powerVoteState q => Sys2Proof.Machine.execPowerVoteState q s
  | .powerVoteOp q => Sys2Proof.Machine.execPowerVoteOp q s
  | .logRead q => Sys2Proof.Machine.execLogRead q s
  | .streamLoss => Sys2Proof.Machine.execStreamLoss s
  | .voteWrite d v => Sys2Proof.Machine.execVoteWrite d v s
  | .domainOn d => Sys2Proof.Machine.execDomainOn d s
  | .drainEnd d => Sys2Proof.Machine.execDrainEnd d s
  | .drainTimeout d => Sys2Proof.Machine.execDrainTimeout d s
  | .dmaTransfer t => Sys2Proof.Machine.execDmaTransfer t s
  | .dmaTransferEnd => Sys2Proof.Machine.execDmaTransferEnd s
  | .pwrReqState m client target => Sys2Proof.Machine.execPwrReqState m client target s
  | .pwrReqOp m client target => Sys2Proof.Machine.execPwrReqOp m client target s
  | .requestStart => Sys2Proof.Machine.execRequestStart s
  | .opSwitch => Sys2Proof.Machine.execOpSwitch s
  | .pllPrepareEnd => Sys2Proof.Machine.execPllPrepareEnd s
  | .avsTransactionEnd acked => Sys2Proof.Machine.execAvsTransactionEnd acked s
  | .avsSettleEnd => Sys2Proof.Machine.execAvsSettleEnd s
  | .powerDonePop => Sys2Proof.Machine.execPowerDonePop s
  | .wake src => Sys2Proof.Machine.execWake src s
  | .pfail => Sys2Proof.Machine.execPfail s
  | .pfailSaved => Sys2Proof.Machine.execPfailSaved s
  | .pfailCleared => Sys2Proof.Machine.execPfailCleared s
  | .powerOnReset straps marchFail => Sys2Proof.Machine.execPowerOnReset straps marchFail s
  | .porstAssert => Sys2Proof.Machine.execPorstAssert s
  | .supplyMonitorTrip rail => Sys2Proof.Machine.execSupplyMonitorTrip rail s
  | .hostReset => Sys2Proof.Machine.execHostReset s
  | .hostResetRelease => Sys2Proof.Machine.execHostResetRelease s
  | .testmodeEntry => Sys2Proof.Machine.execTestmodeEntry s
  | .nvUnitWrite m unit => Sys2Proof.Machine.execNvUnitWrite m unit s
  | .nvUnitDone => Sys2Proof.Machine.execNvUnitDone s
  | .nvWindowRead m addr ecc => Sys2Proof.Machine.execNvWindowRead m addr ecc s
  | .nvLock => Sys2Proof.Machine.execNvLock s
  | .wearSave => Sys2Proof.Machine.execWearSave s
  | .nvWearDone faults => Sys2Proof.Machine.execNvWearDone s faults
  | .adcSchedule r => Sys2Proof.Machine.execAdcSchedule r s
  | .ain0Conversion code => Sys2Proof.Machine.execAin0Conversion code s
  | .calApply k => Sys2Proof.Machine.execCalApply k s
  | .calStart obj => Sys2Proof.Machine.execCalStart obj s
  | .calEnd r => Sys2Proof.Machine.execCalEnd r s
  | .adcTrimUpdate => Sys2Proof.Machine.execAdcTrimUpdate s
  | .logAppend => Sys2Proof.Machine.execLogAppend s
  | .litHourSave => Sys2Proof.Machine.execLitHourSave s
  | .pourResstatRead => Sys2Proof.Machine.execPourResstatRead s
  | .pourErrcntRead => Sys2Proof.Machine.execPourErrcntRead s
  | .pipeErrcntRead => Sys2Proof.Machine.execPipeErrcntRead s
  | .tmpErrcntRead => Sys2Proof.Machine.execTmpErrcntRead s
  | .lnkErrRead n => Sys2Proof.Machine.execLnkErrRead n s
  | .lnkErr2Read n => Sys2Proof.Machine.execLnkErr2Read n s
  | .lnkPrbsRead n => Sys2Proof.Machine.execLnkPrbsRead n s
  | .lnkAlm1Read n => Sys2Proof.Machine.execLnkAlm1Read n s
  | .timeTxq2Read p => Sys2Proof.Machine.execTimeTxq2Read p s
  | .cruUeRead => Sys2Proof.Machine.execCruUeRead s
  | .tunEccRead => Sys2Proof.Machine.execTunEccRead s
  | .mbxCntRead d => Sys2Proof.Machine.execMbxCntRead d s
  | .pwrDoneRead => Sys2Proof.Machine.execPwrDoneRead s
  | .nvcStatRead => Sys2Proof.Machine.execNvcStatRead s
  | .nvcWearRead => Sys2Proof.Machine.execNvcWearRead s
  | .nvcEccRead => Sys2Proof.Machine.execNvcEccRead s
  | .calRunTimeout => Sys2Proof.Machine.execCalRunTimeout s
  | .slotEraseEnd => Sys2Proof.Machine.execSlotEraseEnd s
  | .rowCopyEnd faults => Sys2Proof.Machine.execRowCopyEnd s faults

end Sys2Proof.Machine
end

