-- ==== Sys2Proof/WellFormed.lean ====
section
/-! DEFINITION. The operand ranges the manual gives a command beyond what its operand types already hold:
whole aligned words (R12), grid rows (R85), tiles (R6), pour headers whose FRAG_LEN is their payload
(Table 03-1), and the index ranges of the memories. -/

namespace Sys2Proof

/-- A whole, aligned word below `limit` (R12). -/
def wordAddr (limit a : Nat) : Bool := decide (a < limit) && decide (a % 4 = 0)

/-- A pour fragment carries exactly the bytes its header names, and at most 8,192 of them (Table 03-1). -/
def PourFrag.wf (f : PourFrag) : Bool :=
  decide (f.payload.length = f.hdr.fragLen.toNat) && decide (f.payload.length ≤ 8192)

/-- The values a command's operands may take. -/
def Instr.wf : Instr → Bool
  | .registerWrite _ a _ => wordAddr (2 ^ 32) a
  | .frameReceive _ _ f => match f.body with | .vsf _ g => g.wf | _ => true
  | .writeRect f | .fillRect f | .maskSet f | .maskClear f | .patternWrite f | .glyphWrite f
  | .layerSet f | .meshWrite f | .tableWrite f | .segWrite f | .fence f | .abortPour f | .pourFragment f => f.wf
  | .tileMerge _ t _ => decide (t < 65536)
  | .lineScan row e => decide (row < 1024) &&
      (match e with | .uncorrectable off | .corrected off => decide (off < 0x2000000) | _ => true)
  | .tileRowUpdate row _ => decide (row < 128)
  | .eyeScanEnd _ w h => decide (w < 256) && decide (h < 256)
  | .segmentSlot cs => cs.all (fun c => decide (c.output < 104))
  | .crucibleWindowAccess _ off _ _ _ => wordAddr 0x2000000 off
  | .scrubRead off found => decide (off < 0x2000000) && decide (off % 8 = 0) &&
      (match found with | .corrected b => decide (b < 72) | _ => true)
  | .bankRetire b n => decide (b < 128) && decide (n ≤ 8)
  | .retirementQueuedStart n => decide (n ≤ 8)
  | .tundishBatch rs => rs.all (fun r =>
      match r.op with | .lockRead | .lockWrite _ => decide (r.word < 64) | _ => decide (r.word < 131072))
  | .marchRun a b _ => decide (a < 128) && decide (b < 128)
  | .arbTargetWrite _ t => decide (t ≤ 32)
  | .spiStatus (.unknown c) => !([0x02#8, 0x0B#8, 0x05#8].contains c)
  | .debugWindowRead a _ => wordAddr (2 ^ 24) a
  | .debugWindowWrite a _ => wordAddr (2 ^ 24) a
  | .eventSoftwareSet n => decide (n < 1024)
  | .pwrReqState _ c t => decide (c < 8) && decide (t < 8)
  | .pwrReqOp _ c t => decide (c < 8) && decide (t < 8)
  | .dmaTransfer t => decide (t.src % 4 = 0) && decide (t.dst % 4 = 0) && decide (t.len % 4 = 0)
  | .nvRead _ fs => fs.all (fun f => decide (f.1 < 0x100000))
  | .nvUnitWrite _ u => decide (u < 32768)
  | .nvWindowRead _ a _ => wordAddr 0x100000 a
  | .adcSchedule r => decide (r.ain.length = 7) && decide (r.ts.length = 16) && r.ts.all (fun l => decide (l.length = 4))
  | _ => true

end Sys2Proof
end

