-- ==== Sys2Proof/Safety.lean ====
section
/-! DEFINITION. What the statements call a sound state: the canonical form of every memory and of the register
file, what the fuses never undo, what a command may change, and when a command finds the block ready for it. -/

namespace Sys2Proof.Machine

open Sys2Proof

/-- Every memory and the register file are in canonical form: keys strictly rising, no entry equal to what an
unlisted address reads as. -/
def Memory.wf (s : State) : Bool :=
  twf (resetValue s.part) s.regs && twf (cruInit s.part) s.cru.cells && twf tunInit s.tun.cells &&
    twf zeroInit s.nv.cells && twf zeroInit s.pwr.retMem && twf flashInit s.cpu.flash

/-- The place of a lifecycle state in its one-way order (R215). -/
def Lifecycle.rank : Lifecycle → Nat
  | .development => 0 | .production => 1 | .returned => 2

/-- What fuses keep between two states: the variant and the unique ID stand, the anti-rollback count and the
lifecycle never go back (R2, R214, R215, R241). -/
structure FusesKept (s t : State) : Prop where
  part : t.fuses.part = s.fuses.part
  uniqueId : t.fuses.uniqueId = s.fuses.uniqueId
  arb : s.fuses.arb ≤ t.fuses.arb
  lifecycle : s.fuses.lifecycle.rank ≤ t.fuses.lifecycle.rank

/-! ### Frames

What a command may change, unit by unit and register by register; everything it does not name it leaves alone. The
block's outputs and the count of free values drawn are no part of a frame. -/

/-- The units of the state that hold no register of the register file; the retention memory stands apart from the rest of the
power controller, since every event that firmware logs enters its tail (R292). -/
inductive Comp
  | fuses | pins | time | pour | beam | pipe | temper | link | seg | cru | tun | mbx | cpu | fw | pwr | ret | nv | cal | port0 | port1
deriving DecidableEq, Repr

/-- A unit stands in two states alike. -/
def Comp.Same (s t : State) : Comp → Prop
  | .fuses => t.fuses = s.fuses
  | .pins => t.pins = s.pins
  | .time => t.time = s.time
  | .pour => t.pour = s.pour
  | .beam => t.beam = s.beam
  | .pipe => t.pipe = s.pipe
  | .temper => t.temper = s.temper
  | .link => t.link = s.link
  | .seg => t.seg = s.seg
  | .cru => t.cru = s.cru
  | .tun => t.tun = s.tun
  | .mbx => t.mbx = s.mbx
  | .cpu => t.cpu = s.cpu
  | .fw => t.fw = s.fw
  | .pwr => { t.pwr with retMem := s.pwr.retMem } = s.pwr
  | .ret => t.pwr.retMem = s.pwr.retMem
  | .nv => t.nv = s.nv
  | .cal => t.cal = s.cal
  | .port0 => t.port0 = s.port0
  | .port1 => t.port1 = s.port1

/-- The registers of the register file a frame names, by the manual's name for them. -/
inductive Reg
  | calAdc | calAin | calCmd | calCtrl | calRes0 | calRes1 | calTs | calTsc0 | calTsctl | cruBankmap | cruPstate
  | cruUe | evtEn | evtRoute | evtStat | evtTime | fetRet | fetScrub | laneAlm0 | laneAlm1 | laneCtrl | laneErr
  | laneErr2 | laneEye | lanePrbs | laneStat | lnkCal | lnkCtrl | lnkPair | lnkSlice0 | lnkSlice2 | mbxCnt | mbxDbstat | mbxGen
  | nvcCtrl | nvcEcc | nvcHseq | nvcLogptr | nvcStat | nvcWcmd | nvcWear | nvcWseq | pipeCtrl | pipeDefcnt
  | pipeErrcnt | pipeFrame | pipeGlare | pipeScan | pipeStat | pourCtrl | pourErrcnt | pourResstat | pourSidh
  | pourSidl | pwrCtrl | pwrDone | pwrLitsec | pwrPfstat | pwrPwrsec | pwrReq | pwrState | pwrTicket | pwrVote
  | pwrWakeSrc | segCtrl | segFrame | segOpen | segShort | segStat | sysBoot | sysRole | sysWdt | timeAsym
  | timeCtrl | timeEpoch | timeEw0 | timeEw1 | timeEw2 | timeEw3 | timeFctrl | timeFstart | timeLast | timeLat
  | timePeriod | timeRate | timeStepthr | timeSync | timeTxq2 | tmpBurst | tmpCtrl | tmpErrcnt | tmpPest | tmpStat
  | tmpTj | tmpVbat | tunBad | tunEcc | tunMarch | tunViol
deriving DecidableEq, Repr

/-- The address `a` is one of a named register, at an index it has. -/
def Reg.Holds (a : Nat) : Reg → Prop
  | .calAdc => ∃ i, i < 2 ∧ a = aOf.calAdc i
  | .calAin => ∃ i, i < 8 ∧ a = aOf.calAin i
  | .calCmd => a = aOf.calCmd
  | .calCtrl => a = aOf.calCtrl
  | .calRes0 => a = aOf.calRes0
  | .calRes1 => a = aOf.calRes1
  | .calTs => ∃ i, i < 16 ∧ a = aOf.calTs i
  | .calTsc0 => ∃ i, i < 64 ∧ a = aOf.calTsc0 i
  | .calTsctl => ∃ i, i < 16 ∧ a = aOf.calTsctl i
  | .cruBankmap => ∃ i, i < 32 ∧ a = aOf.cruBankmap i
  | .cruPstate => ∃ i, i < 9 ∧ a = aOf.cruPstate i
  | .cruUe => a = aOf.cruUe
  | .evtEn => ∃ i, i < 32 ∧ a = aOf.evtEn i
  | .evtRoute => ∃ i, i < 256 ∧ a = aOf.evtRoute i
  | .evtStat => ∃ i, i < 32 ∧ a = aOf.evtStat i
  | .evtTime => ∃ i, i < 1024 ∧ a = aOf.evtTime i
  | .fetRet => a = aOf.fetRet
  | .fetScrub => a = aOf.fetScrub
  | .laneAlm0 => ∃ i, i < 64 ∧ a = aOf.laneAlm0 i
  | .laneAlm1 => ∃ i, i < 64 ∧ a = aOf.laneAlm1 i
  | .laneCtrl => ∃ i, i < 64 ∧ a = aOf.laneCtrl i
  | .laneErr => ∃ i, i < 64 ∧ a = aOf.laneErr i
  | .laneErr2 => ∃ i, i < 64 ∧ a = aOf.laneErr2 i
  | .laneEye => ∃ i, i < 64 ∧ a = aOf.laneEye i
  | .lanePrbs => ∃ i, i < 64 ∧ a = aOf.lanePrbs i
  | .laneStat => ∃ i, i < 64 ∧ a = aOf.laneStat i
  | .lnkCal => a = aOf.lnkCal
  | .lnkCtrl => a = aOf.lnkCtrl
  | .lnkPair => ∃ i, i < 32 ∧ a = aOf.lnkPair i
  | .lnkSlice0 => ∃ i, i < 64 ∧ a = aOf.lnkSlice0 i
  | .lnkSlice2 => ∃ i, i < 64 ∧ a = aOf.lnkSlice2 i
  | .mbxCnt => ∃ i, i < 4 ∧ a = aOf.mbxCnt i
  | .mbxDbstat => ∃ i, i < 4 ∧ a = aOf.mbxDbstat i
  | .mbxGen => a = aOf.mbxGen
  | .nvcCtrl => a = aOf.nvcCtrl
  | .nvcEcc => a = aOf.nvcEcc
  | .nvcHseq => a = aOf.nvcHseq
  | .nvcLogptr => a = aOf.nvcLogptr
  | .nvcStat => a = aOf.nvcStat
  | .nvcWcmd => a = aOf.nvcWcmd
  | .nvcWear => a = aOf.nvcWear
  | .nvcWseq => a = aOf.nvcWseq
  | .pipeCtrl => a = aOf.pipeCtrl
  | .pipeDefcnt => ∃ i, i < 2 ∧ a = aOf.pipeDefcnt i
  | .pipeErrcnt => a = aOf.pipeErrcnt
  | .pipeFrame => a = aOf.pipeFrame
  | .pipeGlare => a = aOf.pipeGlare
  | .pipeScan => a = aOf.pipeScan
  | .pipeStat => a = aOf.pipeStat
  | .pourCtrl => a = aOf.pourCtrl
  | .pourErrcnt => a = aOf.pourErrcnt
  | .pourResstat => a = aOf.pourResstat
  | .pourSidh => ∃ i, i < 2 ∧ a = aOf.pourSidh i
  | .pourSidl => ∃ i, i < 2 ∧ a = aOf.pourSidl i
  | .pwrCtrl => a = aOf.pwrCtrl
  | .pwrDone => a = aOf.pwrDone
  | .pwrLitsec => a = aOf.pwrLitsec
  | .pwrPfstat => a = aOf.pwrPfstat
  | .pwrPwrsec => a = aOf.pwrPwrsec
  | .pwrReq => a = aOf.pwrReq
  | .pwrState => a = aOf.pwrState
  | .pwrTicket => a = aOf.pwrTicket
  | .pwrVote => ∃ i, i < 12 ∧ a = aOf.pwrVote i
  | .pwrWakeSrc => a = aOf.pwrWakeSrc
  | .segCtrl => a = aOf.segCtrl
  | .segFrame => a = aOf.segFrame
  | .segOpen => ∃ i, i < 4 ∧ a = aOf.segOpen i
  | .segShort => ∃ i, i < 4 ∧ a = aOf.segShort i
  | .segStat => a = aOf.segStat
  | .sysBoot => a = aOf.sysBoot
  | .sysRole => a = aOf.sysRole
  | .sysWdt => ∃ i, i < 2 ∧ a = aOf.sysWdt i
  | .timeAsym => ∃ i, i < 2 ∧ a = aOf.timeAsym i
  | .timeCtrl => a = aOf.timeCtrl
  | .timeEpoch => a = aOf.timeEpoch
  | .timeEw0 => ∃ i, i < 8 ∧ a = aOf.timeEw0 i
  | .timeEw1 => ∃ i, i < 8 ∧ a = aOf.timeEw1 i
  | .timeEw2 => ∃ i, i < 8 ∧ a = aOf.timeEw2 i
  | .timeEw3 => ∃ i, i < 8 ∧ a = aOf.timeEw3 i
  | .timeFctrl => a = aOf.timeFctrl
  | .timeFstart => a = aOf.timeFstart
  | .timeLast => a = aOf.timeLast
  | .timeLat => ∃ i, i < 2 ∧ a = aOf.timeLat i
  | .timePeriod => a = aOf.timePeriod
  | .timeRate => a = aOf.timeRate
  | .timeStepthr => a = aOf.timeStepthr
  | .timeSync => ∃ i, i < 4 ∧ a = aOf.timeSync i
  | .timeTxq2 => ∃ i, i < 2 ∧ a = aOf.timeTxq2 i
  | .tmpBurst => a = aOf.tmpBurst
  | .tmpCtrl => a = aOf.tmpCtrl
  | .tmpErrcnt => a = aOf.tmpErrcnt
  | .tmpPest => a = aOf.tmpPest
  | .tmpStat => a = aOf.tmpStat
  | .tmpTj => a = aOf.tmpTj
  | .tmpVbat => a = aOf.tmpVbat
  | .tunBad => ∃ i, i < 4 ∧ a = aOf.tunBad i
  | .tunEcc => a = aOf.tunEcc
  | .tunMarch => a = aOf.tunMarch
  | .tunViol => a = aOf.tunViol

/-- `t` differs from `s` at most in the units `cs` and the registers `rs` (and in outputs and free values drawn):
the queue of commands, every other unit and every other register word stand. -/
structure Within (cs : List Comp) (rs : List Reg) (s t : State) : Prop where
  queue : t.pending = s.pending
  units : ∀ c, c ∉ cs → c.Same s t
  regs : ∀ a, (∀ r, r ∈ rs → ¬ r.Holds a) → t.rd a = s.rd a

/-- The same with the register words named by their addresses: `t` differs from `s` at most in the units `cs` and the
words `as`. -/
structure AtMost (cs : List Comp) (as : List Nat) (s t : State) : Prop where
  queue : t.pending = s.pending
  units : ∀ c, c ∉ cs → c.Same s t
  regs : ∀ a, a ∉ as → t.rd a = s.rd a

/-- The families of commands. -/
inductive Family
  | register | hostPort | pour | engine | frame | temper | link | segment | time | gptp | crucible | tundish
  | processor | mailbox | message | power | store | sensor | clearOnRead
deriving DecidableEq, Repr

/-- The family of a command. -/
def familyOf : Instr → Family
  | .registerWrite _ _ _ => .register
  | .frameReceive _ _ _ | .macsecControlFrame _ _ _ | .hostFrameTransmit _ _ _ | .link _ _ | .phyWake _ => .hostPort
  | .writeRect _ | .fillRect _ | .maskSet _ | .maskClear _ | .patternWrite _ | .glyphWrite _ | .layerSet _
  | .meshWrite _ | .tableWrite _ | .segWrite _ | .fence _ | .abortPour _ | .pourFragment _ | .fragTimeout _ => .pour
  | .tileMerge _ _ _ | .storeCopyEnd | .tablePourWrite | .tablePourWriteEnd | .setSyncEnd _ | .fenceComplete
  | .pourResultPop | .flush | .flushEnd | .streamEnable _ => .engine
  | .frameStartEdge | .maskExpiry _ | .frameLaunch | .lineScan _ _ | .poisonHalt | .maskLineBoundary => .frame
  | .tileRowUpdate _ _ | .temperTick | .burstExhausted | .shedEnd | .temperStep => .temper
  | .ackReceive _ _ | .rbdReceive _ _ | .almReceive _ _ | .calReceive _ _ | .fomReceive _ _ | .synReceive _ _
  | .blockLockGain _ | .blockLockLoss _ | .laneSignalDetect _ | .laneSignalLoss _ | .laneRecover _ | .presetStep _
  | .trainTimeout _ | .detectHoldoffEnd _ | .mgmtBlockSend _ | .calLoadStart _ | .calLoadTimeout _ | .lnkCalDoneClear
  | .readbackTimeout _ | .errorLimit _ | .errorInject _ _ | .eyeScan _ | .eyeScanEnd _ _ _ | .laneEnWrite _ _
  | .laneTakeWrite _ _ | .laneRateWrite _ _ | .linkEnWrite _ => .link
  | .segmentFrameStart | .segmentSlot _ | .segmentEnable | .segmentDisable | .vlcdFault | .vlcdOkSet | .vsrcWrite _ => .segment
  | .timeSet _ | .timeAdj _ | .adjustEnd | .timeNsRead | .timeNsWrap | .frameEdgesEnable | .frameEdgesDisable
  | .periodWrite _ | .txqPop _ | .syncPinEdge _ _ => .time
  | .syncMsg _ _ | .followUp _ _ | .announce _ _ | .pdelayReq _ _ | .pdelayResp _ _ | .pdelayRespFollowUp _ _
  | .signaling _ _ | .syncReceiptTimeout | .gridAlign _ => .gptp
  | .crucibleWindowAccess _ _ _ _ _ | .scrubRead _ _ | .columnFillEnd _ | .scrubPassEnd | .bankRetire _ _
  | .retirementQueuedStart _ | .retirementCopyEnd _ _ | .retirementMarchEnd _ | .rowCopyEnd _ => .crucible
  | .tundishBatch _ | .tunLockRead _ _ | .tunLockWrite _ _ _ | .marchRun _ _ _ | .marchBlockDone _ | .marchEnd => .tundish
  | .bootRomRun _ _ | .firmwareStart _ | .arbTargetWrite _ _ | .roleSwap _ | .swapApply | .handoverTimeout
  | .watchdogKick _ _ | .watchdogExpire _ | .takeover => .processor
  | .mailboxPost _ _ _ | .mailboxPop _ _ | .hostGenerationWrite _ | .doorbellSet _ _ _ | .doorbellClear _ _ _
  | .heartbeat | .spiStatus _ | .debugWindowRead _ _ | .debugWindowWrite _ _ | .debugAccessComplete | .dbgBaseWrite _
  | .eventSoftwareSet _ | .eventEnableWrite _ _ => .mailbox
  | .identify _ | .getStatus _ | .statusMsg | .configSet _ | .configGet _ | .lampState _ | .patternSelect _
  | .levelSet _ | .ingotStoreBegin _ | .ingotStoreData _ | .ingotStoreEnd _ | .maskSetMessage _ | .eventRead _
  | .eventConfig _ | .timeStatus _ | .timeConfigThr _ | .timeConfigSlew _ | .timeConfigHoldover _ | .timeConfigAsym _
  | .timeConfigLat _ | .timeConfigJoin _ | .timeConfigWindow _ | .calRun _ | .calRead _ | .nvRead _ _ | .nvWrite _
  | .nvSaveNow _ | .fwStageBegin _ | .fwStageData _ | .fwStageEnd _ | .transferTimeout _ | .fwCommit _
  | .fwHandover _ | .selftestMarchPreserving _ | .selftestMarchDestructive _ | .selftestScrub _
  | .selftestBankRetire _ | .selftestLanePrbs _ | .selftestEyeScan _ | .selftestReadbackSweep _
  | .selftestSegmentSweep _ | .selftestTestFrame _ | .selftestSensorCheck _ | .selftestPixelScan _
  | .laneCtrlRestore _ | .laneCtrlEnable _ | .laneCtrlDisable _ | .laneCtrlRetrain _ | .laneCtrlRate _
  | .laneCtrlTake _ | .laneCtrlReport _ | .powerVoteDomain _ | .powerVoteState _ | .powerVoteOp _ | .logRead _
  | .streamLoss | .slotEraseEnd => .message
  | .voteWrite _ _ | .domainOn _ | .drainEnd _ | .drainTimeout _ | .dmaTransfer _ | .dmaTransferEnd
  | .pwrReqState _ _ _ | .pwrReqOp _ _ _ | .requestStart | .opSwitch | .pllPrepareEnd | .avsTransactionEnd _
  | .avsSettleEnd | .powerDonePop | .wake _ | .pfail | .pfailSaved | .pfailCleared | .powerOnReset _ _ | .porstAssert
  | .supplyMonitorTrip _ | .hostReset | .hostResetRelease | .testmodeEntry => .power
  | .nvUnitWrite _ _ | .nvUnitDone | .nvWindowRead _ _ _ | .nvLock | .wearSave | .nvWearDone _ | .logAppend
  | .litHourSave => .store
  | .adcSchedule _ | .ain0Conversion _ | .calApply _ | .calStart _ | .calEnd _ | .adcTrimUpdate | .calRunTimeout => .sensor
  | .pourResstatRead | .pourErrcntRead | .pipeErrcntRead | .tmpErrcntRead | .lnkErrRead _ | .lnkErr2Read _
  | .lnkPrbsRead _ | .lnkAlm1Read _ | .timeTxq2Read _ | .cruUeRead | .tunEccRead | .mbxCntRead _ | .pwrDoneRead
  | .nvcStatRead | .nvcWearRead | .nvcEccRead => .clearOnRead

/-- The registers an event may change: its status and stamp, the doorbell its route names, and the length of the
retention tail that takes its record (R227, R232, R292). -/
def eventRegs : List Reg := [.evtStat, .evtTime, .mbxDbstat, .pwrPfstat]

/-- The registers a reply may change: those of events, and what a new host generation marks (R222, R223). -/
def replyRegs : List Reg := .mbxCnt :: .mbxGen :: eventRegs

/-- The units and registers a command may change; `none` for a command that can reach any register: a write or a
completed access of the bus, a domain that loses or regains its registers, a classified frame, the start of firmware
power-up, and a word of HMB in that the active core reads, which can end a request. -/
def frameOf : Instr → Option (List Comp × List Reg)
  | .registerWrite _ _ _ | .frameReceive _ _ _ | .firmwareStart _ | .debugAccessComplete | .domainOn _ | .drainEnd _
  | .drainTimeout _ | .dmaTransferEnd | .powerOnReset _ _ => none
  | .macsecControlFrame _ _ _ | .phyWake _ | .doorbellSet _ _ _ | .doorbellClear _ _ _ | .spiStatus _ | .eventSoftwareSet _
  | .streamLoss => some ([.fw, .ret], eventRegs)
  | .hostFrameTransmit _ _ _ => some ([.time, .fw, .ret], [.timeTxq2] ++ eventRegs)
  | .link _ _ => some ([.fw, .ret, .port0, .port1], eventRegs)
  | .writeRect _ | .fillRect _ | .maskSet _ | .maskClear _ | .patternWrite _ | .glyphWrite _ | .layerSet _ | .meshWrite _
  | .tableWrite _ | .segWrite _ | .fence _ | .abortPour _ | .pourFragment _ =>
    some ([.pour, .cru, .mbx, .fw, .ret, .port0, .port1], [.pourErrcnt, .pourResstat] ++ eventRegs)
  | .fragTimeout _ | .storeCopyEnd | .tablePourWrite | .tablePourWriteEnd =>
    some ([.pour, .cru, .mbx, .fw, .ret], [.pourResstat] ++ eventRegs)
  | .tileMerge _ _ _ | .setSyncEnd _ =>
    some ([.time, .pour, .cru, .mbx, .fw, .pwr, .ret], [.cruPstate, .cruUe, .fetRet, .pwrDone, .pwrState, .pwrTicket, .pwrVote,
      .timeFctrl, .timePeriod] ++ eventRegs)
  | .fenceComplete | .statusMsg => some ([.pour, .mbx, .fw, .ret], [.pourResstat] ++ eventRegs)
  | .pourResultPop => some ([.pour], [])
  | .flush => some ([.pour, .cru, .mbx, .fw, .ret], [.pourCtrl, .pourResstat] ++ eventRegs)
  | .flushEnd =>
    some ([.time, .pour, .beam, .seg, .cru, .mbx, .fw, .pwr, .ret, .nv], [.lnkPair, .nvcHseq, .nvcStat, .nvcWear, .pourCtrl,
      .pourResstat, .pwrDone, .pwrState, .pwrTicket, .pwrVote, .segCtrl, .segStat, .timeFctrl, .timePeriod] ++ eventRegs)
  | .streamEnable _ => some ([.pour], [.pourCtrl])
  | .frameStartEdge =>
    some ([.time, .pour, .beam, .pipe, .temper, .link, .seg, .cru, .mbx, .fw, .pwr, .ret], [.cruPstate, .fetRet, .laneErr,
      .laneStat, .lnkCtrl, .lnkPair, .lnkSlice0, .lnkSlice2, .pipeErrcnt, .pipeFrame, .pipeStat, .pourCtrl, .pourResstat,
      .pwrDone, .pwrLitsec, .pwrPwrsec, .pwrReq, .pwrState, .pwrTicket, .pwrVote, .segCtrl, .segStat, .timeEpoch, .timeFctrl,
      .timeLast, .timePeriod, .tmpErrcnt, .tmpStat, .tmpTj, .tmpVbat] ++ eventRegs)
  | .maskExpiry _ => some ([.beam], [])
  | .frameLaunch => some ([.pipe, .mbx, .fw], [])
  | .lineScan _ _ =>
    some ([.time, .pipe, .link, .cru, .mbx, .fw, .pwr, .ret], [.cruPstate, .cruUe, .fetRet, .laneErr, .pipeErrcnt, .pipeGlare,
      .pipeScan, .pwrDone, .pwrState, .pwrTicket, .pwrVote, .timeFctrl, .timePeriod] ++ eventRegs)
  | .poisonHalt => some ([.pour, .cru, .mbx, .fw, .ret], [.laneStat, .pipeStat, .pourCtrl, .pourResstat] ++ eventRegs)
  | .maskLineBoundary => some ([.pour, .beam, .mbx, .fw, .ret], [.pourResstat] ++ eventRegs)
  | .tileRowUpdate _ _ =>
    some ([.time, .pipe, .temper, .cru, .mbx, .fw, .pwr, .ret], [.cruPstate, .cruUe, .fetRet, .pwrDone, .pwrState, .pwrTicket,
      .pwrVote, .timeFctrl, .timePeriod, .tmpErrcnt, .tmpStat, .tmpVbat] ++ eventRegs)
  | .temperTick =>
    some ([.time, .temper, .mbx, .fw, .pwr, .ret], [.pwrDone, .pwrState, .pwrTicket, .timeFctrl, .timePeriod, .tmpBurst, .tmpPest,
      .tmpStat, .tmpTj] ++ eventRegs)
  | .burstExhausted =>
    some ([.time, .temper, .mbx, .fw, .pwr, .ret], [.pwrDone, .pwrState, .pwrTicket, .timeFctrl, .timePeriod, .tmpBurst, .tmpStat]
      ++ eventRegs)
  | .shedEnd => some ([.fw, .ret], [.tmpStat] ++ eventRegs)
  | .temperStep =>
    some ([.time, .temper, .mbx, .fw, .pwr, .ret], [.lnkPair, .pwrDone, .pwrState, .pwrTicket, .timeFctrl, .timePeriod] ++
      eventRegs)
  | .ackReceive _ _ | .fomReceive _ _ | .synReceive _ _ =>
    some ([.link, .fw, .ret], [.laneErr, .laneStat, .lnkPair, .lnkSlice2] ++ eventRegs)
  | .rbdReceive _ _ => some ([.link, .mbx, .fw, .ret], [.laneErr, .laneErr2, .laneStat, .lnkPair, .lnkSlice2] ++ eventRegs)
  | .almReceive _ _ =>
    some ([.link, .mbx, .fw, .ret], [.laneAlm0, .laneAlm1, .laneCtrl, .laneErr, .lanePrbs, .laneStat, .lnkPair, .lnkSlice2] ++
      eventRegs)
  | .calReceive _ _ =>
    some ([.link, .cru, .tun, .fw, .ret], [.laneErr, .laneStat, .lnkCal, .lnkPair, .lnkSlice2, .tunViol] ++ eventRegs)
  | .blockLockGain _ | .blockLockLoss _ | .laneSignalDetect _ | .laneSignalLoss _ | .laneRecover _ | .presetStep _
  | .trainTimeout _ => some ([.link, .fw, .ret], [.laneStat, .lnkPair, .lnkSlice2] ++ eventRegs)
  | .detectHoldoffEnd _ | .calLoadStart _ | .errorInject _ _ => some ([.link], [])
  | .mgmtBlockSend _ | .laneTakeWrite _ _ =>
    some ([.link, .fw, .ret], [.laneCtrl, .lanePrbs, .laneStat, .lnkPair, .lnkSlice2] ++ eventRegs)
  | .calLoadTimeout _ => some ([.link, .fw, .ret], [.lnkSlice2] ++ eventRegs)
  | .lnkCalDoneClear => some ([.cru], [.lnkCal, .lnkSlice2, .pipeCtrl, .pipeDefcnt])
  | .readbackTimeout _ => some ([.link, .mbx, .fw], [.laneErr2])
  | .errorLimit _ => some ([.link, .fw, .ret], eventRegs)
  | .eyeScan _ => some ([], [.laneEye])
  | .eyeScanEnd _ _ _ => some ([.mbx, .fw], [.laneEye])
  | .laneEnWrite _ _ | .laneRateWrite _ _ => some ([.link, .fw, .ret], [.laneCtrl, .laneStat, .lnkPair, .lnkSlice2] ++ eventRegs)
  | .linkEnWrite _ => some ([.link, .fw, .ret], [.laneStat, .lnkCtrl, .lnkPair, .lnkSlice2] ++ eventRegs)
  | .segmentFrameStart => some ([.pour, .beam, .seg, .cru, .mbx, .fw, .ret], [.pourResstat, .segFrame, .segStat] ++ eventRegs)
  | .segmentSlot _ => some ([.seg, .fw, .ret], [.segOpen, .segShort, .segStat] ++ eventRegs)
  | .segmentEnable | .vsrcWrite _ => some ([.seg], [.segCtrl, .segStat])
  | .segmentDisable => some ([], [.segCtrl])
  | .vlcdFault => some ([.seg, .fw, .ret], [.segStat] ++ eventRegs)
  | .vlcdOkSet => some ([.seg], [.segStat])
  | .timeSet _ => some ([.time, .link, .cpu, .fw, .ret, .cal], eventRegs)
  | .timeAdj _ => some ([.time, .fw, .ret], eventRegs)
  | .adjustEnd | .timeNsWrap => some ([.time, .pwr], [.pwrLitsec, .pwrPwrsec])
  | .timeNsRead | .txqPop _ => some ([.time], [])
  | .frameEdgesEnable => some ([.time, .fw, .ret], [.timeFctrl] ++ eventRegs)
  | .frameEdgesDisable => some ([.time, .temper, .fw, .ret], [.timeFctrl, .timePeriod] ++ eventRegs)
  | .periodWrite _ => some ([.time, .fw, .ret], [.timeFctrl, .timePeriod] ++ eventRegs)
  | .syncPinEdge _ _ => some ([.time, .fw, .ret], [.timeEw3, .timeSync] ++ eventRegs)
  | .syncMsg _ _ | .announce _ _ | .pdelayRespFollowUp _ _ | .signaling _ _ => some ([.fw, .port0, .port1], [])
  | .followUp _ _ => some ([.time, .fw, .ret, .port0, .port1], [.timeRate] ++ eventRegs)
  | .pdelayReq _ _ => some ([.time, .fw, .ret, .port0, .port1], [.timeTxq2] ++ eventRegs)
  | .pdelayResp _ _ => some ([.time, .fw, .port0, .port1], [])
  | .syncReceiptTimeout | .transferTimeout _ => some ([.fw], [])
  | .gridAlign _ =>
    some ([.time, .temper, .link, .cpu, .fw, .ret, .cal], [.timeEpoch, .timeFctrl, .timeFstart, .timePeriod] ++ eventRegs)
  | .crucibleWindowAccess _ _ _ _ _ | .scrubRead _ _ =>
    some ([.time, .cru, .mbx, .fw, .pwr, .ret], [.cruPstate, .cruUe, .fetRet, .pwrDone, .pwrState, .pwrTicket, .pwrVote,
      .timeFctrl, .timePeriod] ++ eventRegs)
  | .columnFillEnd _ | .rowCopyEnd _ =>
    some ([.time, .cru, .mbx, .fw, .pwr, .ret, .nv], [.cruPstate, .cruUe, .fetRet, .nvcStat, .pwrDone, .pwrState, .pwrTicket,
      .pwrVote, .timeFctrl, .timePeriod] ++ eventRegs)
  | .scrubPassEnd =>
    some ([.time, .cru, .mbx, .fw, .pwr, .ret], [.cruPstate, .cruUe, .fetRet, .fetScrub, .pwrDone, .pwrState, .pwrTicket,
      .pwrVote, .timeFctrl, .timePeriod] ++ eventRegs)
  | .bankRetire _ _ | .retirementQueuedStart _ =>
    some ([.time, .cru, .mbx, .fw, .pwr, .ret], [.cruPstate, .fetRet, .pwrDone, .pwrState, .pwrTicket, .pwrVote, .timeFctrl,
      .timePeriod] ++ eventRegs)
  | .retirementCopyEnd _ _ =>
    some ([.time, .cru, .mbx, .fw, .pwr, .ret], [.cruBankmap, .cruPstate, .cruUe, .fetRet, .pwrDone, .pwrState, .pwrTicket,
      .pwrVote, .timeFctrl, .timePeriod] ++ eventRegs)
  | .retirementMarchEnd _ =>
    some ([.time, .cru, .mbx, .fw, .pwr, .ret, .nv], [.cruPstate, .fetRet, .nvcStat, .pwrDone, .pwrState, .pwrTicket, .pwrVote,
      .timeFctrl, .timePeriod] ++ eventRegs)
  | .tundishBatch _ => some ([.tun, .fw, .ret], [.tunEcc, .tunViol] ++ eventRegs)
  | .tunLockRead _ _ | .tunLockWrite _ _ _ => some ([.tun], [])
  | .marchRun _ _ _ => some ([.tun], [.tunMarch])
  | .marchBlockDone _ => some ([.tun, .fw, .ret], [.tunBad, .tunMarch] ++ eventRegs)
  | .marchEnd => some ([.tun, .mbx, .fw, .ret], [.tunMarch] ++ eventRegs)
  | .bootRomRun _ _ =>
    some ([.fuses, .pour, .cru, .mbx, .cpu, .fw, .ret, .nv], [.pourResstat, .sysBoot, .sysRole, .sysWdt] ++ replyRegs)
  | .arbTargetWrite _ _ => some ([.fuses, .fw, .ret], [.sysBoot] ++ eventRegs)
  | .roleSwap _ => some ([], [.sysRole])
  | .swapApply | .takeover => some ([.mbx, .cpu, .fw, .ret], [.sysBoot, .sysRole] ++ replyRegs)
  | .handoverTimeout | .fwHandover _ => some ([.mbx, .cpu, .fw, .ret], [.sysRole] ++ replyRegs)
  | .watchdogKick _ _ => some ([.cpu], [])
  | .watchdogExpire _ => some ([.mbx, .cpu, .fw, .ret], [.sysBoot, .sysRole, .sysWdt] ++ replyRegs)
  | .mailboxPost _ _ _ => some ([.mbx, .fw, .ret], eventRegs)
  | .hostGenerationWrite _ =>
    some ([.time, .mbx, .fw, .pwr, .ret], [.lnkPair, .pwrDone, .pwrReq, .pwrState, .pwrTicket, .pwrVote, .timeFctrl, .timePeriod]
      ++ replyRegs)
  | .heartbeat => some ([], [.mbxDbstat])
  | .debugWindowRead _ _ =>
    some ([.time, .cru, .tun, .mbx, .cpu, .fw, .pwr, .ret, .nv], [.cruPstate, .cruUe, .fetRet, .mbxCnt, .nvcEcc, .nvcStat,
      .pwrDone, .pwrState, .pwrTicket, .pwrVote, .timeFctrl, .timePeriod, .tunEcc, .tunViol] ++ eventRegs)
  | .debugWindowWrite _ _ | .dbgBaseWrite _ => some ([.cpu, .fw, .ret], eventRegs)
  | .eventEnableWrite _ _ => some ([], [.evtEn, .mbxDbstat])
  | .identify _ | .getStatus _ | .configGet _ | .eventRead _ | .timeStatus _ | .calRead _ | .logRead _ =>
    some ([.mbx, .fw, .ret], replyRegs)
  | .configSet _ =>
    some ([.time, .pour, .mbx, .fw, .ret], [.lnkPair, .pourCtrl, .pourSidh, .pourSidl, .pwrCtrl, .timeFctrl, .timePeriod] ++
      replyRegs)
  | .lampState _ =>
    some ([.time, .pour, .beam, .link, .seg, .cru, .mbx, .fw, .pwr, .ret, .nv], [.laneCtrl, .laneStat, .lnkCtrl, .lnkPair,
      .lnkSlice0, .lnkSlice2, .nvcHseq, .nvcStat, .nvcWear, .pourCtrl, .pourResstat, .pourSidh, .pourSidl, .pwrCtrl, .pwrDone,
      .pwrState, .pwrTicket, .pwrVote, .segCtrl, .segStat, .timeEpoch, .timeFctrl, .timeFstart, .timePeriod, .tmpCtrl] ++
      replyRegs)
  | .patternSelect _ | .levelSet _ | .maskSetMessage _ => some ([.pour, .cru, .mbx, .fw, .ret], [.pourResstat] ++ replyRegs)
  | .ingotStoreBegin _ | .ingotStoreData _ | .ingotStoreEnd _ =>
    some ([.pour, .cru, .mbx, .fw, .ret, .nv], [.nvcStat, .pourResstat] ++ replyRegs)
  | .eventConfig _ => some ([.mbx, .fw, .ret], [.evtEn, .evtRoute] ++ replyRegs)
  | .timeConfigThr _ | .timeConfigSlew _ | .timeConfigHoldover _ | .timeConfigAsym _ | .timeConfigLat _ | .timeConfigJoin _
  | .timeConfigWindow _ =>
    some ([.time, .temper, .link, .mbx, .cpu, .fw, .ret, .cal], [.timeAsym, .timeCtrl, .timeEpoch, .timeEw0, .timeEw1, .timeEw2,
      .timeFctrl, .timeFstart, .timeLat, .timePeriod, .timeStepthr] ++ replyRegs)
  | .calRun _ => some ([.mbx, .fw, .ret, .cal], [.calCmd] ++ replyRegs)
  | .nvRead _ _ => some ([.mbx, .fw, .ret, .nv], [.nvcEcc, .nvcStat] ++ replyRegs)
  | .nvWrite _ => some ([.mbx, .fw, .ret, .nv], [.nvcStat] ++ replyRegs)
  | .nvSaveNow _ =>
    some ([.time, .mbx, .fw, .pwr, .ret, .nv], [.nvcHseq, .nvcLogptr, .nvcStat, .nvcWear, .pwrDone, .pwrState, .pwrTicket,
      .pwrVote, .timeFctrl, .timePeriod] ++ replyRegs)
  | .fwStageBegin _ | .fwStageData _ | .fwStageEnd _ =>
    some ([.fuses, .mbx, .cpu, .fw, .ret, .nv], [.sysBoot, .sysWdt] ++ replyRegs)
  | .fwCommit _ => some ([.fuses, .mbx, .fw, .ret, .nv], [.nvcStat, .sysBoot] ++ replyRegs)
  | .selftestMarchPreserving _ | .selftestMarchDestructive _ | .selftestScrub _ | .selftestBankRetire _
  | .selftestLanePrbs _ | .selftestEyeScan _ | .selftestReadbackSweep _ | .selftestSegmentSweep _ | .selftestTestFrame _
  | .selftestSensorCheck _ | .selftestPixelScan _ =>
    some ([.time, .link, .cru, .tun, .mbx, .fw, .pwr, .ret], [.cruPstate, .fetRet, .laneCtrl, .laneEye, .pwrDone, .pwrState,
      .pwrTicket, .pwrVote, .timeFctrl, .timePeriod, .tunMarch] ++ replyRegs)
  | .laneCtrlRestore _ | .laneCtrlEnable _ | .laneCtrlDisable _ | .laneCtrlRetrain _ | .laneCtrlRate _ | .laneCtrlTake _
  | .laneCtrlReport _ => some ([.link, .mbx, .fw, .ret], [.laneCtrl, .lanePrbs, .laneStat, .lnkPair, .lnkSlice2] ++ replyRegs)
  | .powerVoteDomain _ | .powerVoteState _ | .powerVoteOp _ =>
    some ([.time, .cru, .mbx, .fw, .pwr, .ret, .nv], [.cruPstate, .cruUe, .fetRet, .lnkPair, .nvcHseq, .nvcLogptr, .nvcStat,
      .nvcWear, .nvcWseq, .pwrDone, .pwrReq, .pwrState, .pwrTicket, .pwrVote, .timeFctrl, .timePeriod] ++ replyRegs)
  | .voteWrite _ _ | .dmaTransfer _ =>
    some ([.time, .mbx, .fw, .pwr, .ret], [.pwrDone, .pwrState, .pwrTicket, .pwrVote, .timeFctrl, .timePeriod] ++ eventRegs)
  | .pwrReqState _ _ _ | .pwrReqOp _ _ _ =>
    some ([.time, .mbx, .fw, .pwr, .ret], [.lnkPair, .pwrDone, .pwrReq, .pwrState, .pwrTicket, .pwrVote, .timeFctrl, .timePeriod]
      ++ eventRegs)
  | .requestStart =>
    some ([.time, .mbx, .fw, .pwr, .ret], [.lnkPair, .pwrDone, .pwrState, .pwrTicket, .pwrVote, .timeFctrl, .timePeriod] ++
      eventRegs)
  | .opSwitch =>
    some ([.time, .mbx, .fw, .pwr, .ret], [.lnkPair, .pwrDone, .pwrState, .pwrTicket, .timeFctrl, .timePeriod] ++ eventRegs)
  | .pllPrepareEnd | .powerDonePop => some ([.pwr], [])
  | .avsTransactionEnd _ | .avsSettleEnd =>
    some ([.time, .pour, .mbx, .fw, .pwr, .ret], [.pourResstat, .pwrDone, .pwrState, .pwrTicket, .timeFctrl, .timePeriod] ++
      eventRegs)
  | .wake _ =>
    some ([.time, .mbx, .fw, .pwr, .ret], [.pwrDone, .pwrState, .pwrTicket, .pwrVote, .pwrWakeSrc, .timeFctrl, .timePeriod] ++
      eventRegs)
  | .pfail =>
    some ([.pins, .time, .mbx, .fw, .pwr, .ret, .nv], [.nvcStat, .nvcWear, .pwrDone, .pwrState, .pwrTicket, .pwrVote, .timeFctrl,
      .timePeriod] ++ eventRegs)
  | .pfailSaved =>
    some ([.time, .cru, .mbx, .fw, .pwr, .ret, .nv], [.cruPstate, .cruUe, .fetRet, .nvcHseq, .nvcLogptr, .nvcStat, .nvcWear,
      .nvcWseq, .pwrDone, .pwrState, .pwrTicket, .pwrVote, .timeFctrl, .timePeriod] ++ eventRegs)
  | .pfailCleared => some ([.pins, .fw, .ret], [.nvcStat] ++ eventRegs)
  | .porstAssert | .supplyMonitorTrip _ =>
    some ([.pins, .cpu, .fw, .ret, .nv], [.nvcHseq, .nvcLogptr, .nvcStat, .nvcWear, .pwrState] ++ eventRegs)
  | .hostReset => some ([.pins, .mbx, .cpu, .fw, .ret, .port0, .port1], [.sysBoot, .sysRole] ++ replyRegs)
  | .hostResetRelease => some ([.pins, .cpu, .fw, .port0, .port1], [.sysBoot])
  | .testmodeEntry => some ([.pins, .cpu], [])
  | .nvUnitWrite _ _ => some ([.fw, .ret, .nv], [.nvcStat, .nvcWcmd] ++ eventRegs)
  | .nvUnitDone => some ([.nv], [.nvcStat])
  | .nvWindowRead _ _ _ => some ([.fw, .ret, .nv], [.nvcEcc, .nvcStat] ++ eventRegs)
  | .nvLock => some ([], [.nvcCtrl])
  | .wearSave =>
    some ([.time, .mbx, .fw, .pwr, .ret, .nv], [.nvcWear, .pwrDone, .pwrState, .pwrTicket, .pwrVote, .timeFctrl, .timePeriod] ++
      eventRegs)
  | .nvWearDone _ =>
    some ([.time, .cru, .mbx, .fw, .pwr, .ret, .nv], [.cruPstate, .cruUe, .fetRet, .nvcWear, .nvcWseq, .pwrDone, .pwrState,
      .pwrTicket, .pwrVote, .timeFctrl, .timePeriod] ++ eventRegs)
  | .adcSchedule _ => some ([.pipe, .cal], [.calAin, .calTs])
  | .ain0Conversion _ => some ([.temper], [.calAin])
  | .calApply _ => some ([.cal], [])
  | .calStart _ => some ([.cal], [.calCmd])
  | .calEnd _ =>
    some ([.mbx, .fw, .ret, .nv, .cal], [.calAdc, .calCmd, .calCtrl, .calRes0, .calRes1, .calTs, .calTsc0, .calTsctl, .nvcStat] ++
      eventRegs)
  | .adcTrimUpdate => some ([], [.calAdc])
  | .logAppend => some ([.fw, .ret, .nv], [.nvcLogptr, .nvcStat] ++ eventRegs)
  | .litHourSave =>
    some ([.time, .mbx, .fw, .pwr, .ret, .nv], [.nvcHseq, .nvcStat, .nvcWear, .pwrDone, .pwrState, .pwrTicket, .pwrVote,
      .timeFctrl, .timePeriod] ++ eventRegs)
  | .pourResstatRead => some ([], [.pourResstat])
  | .pourErrcntRead => some ([], [.pourErrcnt])
  | .pipeErrcntRead => some ([], [.pipeErrcnt])
  | .tmpErrcntRead => some ([], [.tmpErrcnt])
  | .lnkErrRead _ => some ([], [.laneErr])
  | .lnkErr2Read _ => some ([], [.laneErr2])
  | .lnkPrbsRead _ => some ([], [.lanePrbs])
  | .lnkAlm1Read _ => some ([], [.laneAlm1])
  | .timeTxq2Read _ => some ([], [.timeTxq2])
  | .cruUeRead => some ([], [.cruUe])
  | .tunEccRead => some ([], [.tunEcc])
  | .mbxCntRead _ => some ([], [.mbxCnt])
  | .pwrDoneRead => some ([], [.pwrDone])
  | .nvcStatRead => some ([], [.nvcStat])
  | .nvcWearRead => some ([], [.nvcWear])
  | .nvcEccRead => some ([], [.nvcEcc])
  | .calRunTimeout => some ([.mbx, .fw], [])
  | .slotEraseEnd => some ([.mbx, .cpu, .fw], [])
  | .mailboxPop .host _ =>
    some ([.time, .mbx, .fw, .pwr, .ret], [.lnkPair, .pwrDone, .pwrReq, .pwrState, .pwrTicket, .pwrVote, .timeFctrl, .timePeriod] ++
      replyRegs)
  | .mailboxPop (.core _) d => if d.val = 0 then none else some ([.mbx], [.mbxCnt])

/-! ### Readiness -/

/-- A register can be reached: the device runs, its block is present and its domain ON (R5, R12, R30). -/
def State.canAccess (s : State) (a : Nat) : Bool :=
  s.alive && (match blockOf s.part a with
    | some (d, absent) => !absent && !absentReg s.part a && s.domOn d
    | none => false)

/-- A register whose write sets its fields and does nothing else: no row of its own names it (R12). -/
def State.plainReg (s : State) (m : Master) (a : Nat) (v : Word) : Bool :=
  (s.writeLight a v).isNone && (s.writeTime a v).isNone && (s.writeStore a v).isNone && (s.writeCtrl m a v).isNone &&
    !(decide (0x40018000 ≤ a) && decide (a < 0x4001C000))

/-- Firmware takes a request as it comes: it runs, the route is up, the header is sound, the sender's generation is the
current one and there is room for the request (R224, R237, R240). -/
def State.admits (s : State) (op : BitVec 8) (q : Msg) : Bool :=
  s.fwRuns && s.routeUp q.route && !q.reply && !q.rsvd && listedOp op && decide (q.gen.toNat = s.gen 0) &&
    (op == 0x01#8 || decide (s.fw.requests.length < 32))

/-- A reply of `n` words leaves at once: over SPI nothing waits before it and HMB out has room (R224, R242), over a port
its link is up (R236). -/
def State.answersNow (s : State) (q : Msg) (n : Nat) : Bool :=
  match q.route with
  | .spi => s.fw.outbox.isEmpty && decide (n ≤ (s.fifo 1).free)
  | .port p => (s.hostPort p).up && !(s.hostPort p).inReset

/-- The reply to a request: over a port in the control stream, to the request's source with its VLAN tag; header, status and
detail, and with status OK its words (R224, R236, Table 10-7). -/
def State.replyTo (s : State) (op : BitVec 8) (q : Msg) (status detail : Nat) (ws : List Word) : Out :=
  let body := if status = 0 then ws else []
  .reply q.route (match q.route with | .spi => none | .port _ => some (s.ethHead q.mac q.vlan))
    (hdrWord op q.seq (s.gen 1) (status != 0) true (2 + body.length))
    (BitVec.ofNat 32 (detail % 65536 * 65536 + status) :: body)

/-- The request firmware holds, with its arrival stamp, until what its reply waits for has happened (R22, R26, R238, R240). -/
def State.heldFor (s : State) (op : BitVec 8) (q : Msg) (w : ReplyWait) : Request :=
  { opcode := op, q := q, wait := w, frameWord := none, stamp := s.stampOf false }

/-- A command completes with the answer of an opcode: the reply leaves now where nothing holds it back, in the control stream as it
then is, and the next state is as `P` says. -/
def Answers (c : Instr) (s : State) (op : BitVec 8) (q : Msg) (status detail : Nat) (ws : List Word) (P : State → Prop) : Prop :=
  ∃ t, exec c s = .next t ∧ P t ∧
    (s.answersNow q (2 + (if status = 0 then ws else []).length) = true → t.replyTo op q status detail ws ∈ t.out)

/-- A command completes with its request held until what its reply waits for has happened. -/
def HoldsFor (c : Instr) (s : State) (op : BitVec 8) (q : Msg) (w : ReplyWait) (P : State → Prop) : Prop :=
  ∃ t, exec c s = .next t ∧ P t ∧ s.heldFor op q w ∈ t.fw.requests

/-- Self-test `n` is taken: admitted, its unit present, its argument sound, its engine free, nothing it would destroy in
use, and where it takes the light, light there is and OFFLINE set while the lamp is LIT (R261). -/
def State.takesTest (s : State) (n : Nat) (q : Msg) : Bool :=
  let q := q.sel 0 8 n
  s.admits 0x90#8 q && decide (3 ≤ q.len) && onlyBits (q.w 1) 0x1FF && !s.testAbsent n (q.w 2) && s.testValid n (q.w 2) &&
  !s.marchBarred n (q.w 2) && !s.testBusy n &&
  !(s.offline n (q.w 2) && (s.noLight || (s.fw.lamp == .lit && !bitOf (q.w 1) 8)))

/-- LANE_CTRL action `a` is taken: admitted, lane present and powered, word sound, and no LIT slice stranded (R262). -/
def State.takesAction (s : State) (a : Nat) (q : Msg) : Bool :=
  let q := q.sel 8 4 a
  let n := fld (q.w 1) 0 6
  s.admits 0xA0#8 q && decide (3 ≤ q.len) && onlyBits (q.w 1) 0xF3F && decide (n < s.part.lanes) && s.laneOn n &&
  !s.strands a n (q.w 2)

/-- The command of a TIME_CONFIG item (R256). -/
def timeItemCommand (q : Msg) (item : Fin 7) : Instr :=
  match item.val with
  | 0 => .timeConfigThr q | 1 => .timeConfigSlew q | 2 => .timeConfigHoldover q | 3 => .timeConfigAsym q
  | 4 => .timeConfigLat q | 5 => .timeConfigJoin q | _ => .timeConfigWindow q

/-- A TIME_CONFIG item has taken its value: step threshold, slew limit, holdover figures, asymmetry and latency of a port, the
grid joined, or an event window (R183, R256). -/
def TimeItemTaken (s t : State) (q : Msg) (item : Fin 7) : Prop :=
  match item.val with
  | 0 => t.f aOf.timeStepthr 0 24 = (q.w 2).toNat
  | 1 => t.f aOf.timeCtrl 0 10 = (q.w 2).toNat
  | 2 => t.fw.servo.hdrift = (q.w 2).toNat ∧ t.fw.servo.hage = (q.w 3).toNat
  | 3 => t.rd (aOf.timeAsym (portOf (q.w 2)).idx) = q.w 3
  | 4 => t.rd (aOf.timeLat (portOf (q.w 2)).idx) = q.w 3
  | 5 => t.fw.items.grid = some (joinEpoch q, (q.w 5).toNat) ∧ t.bit aOf.timeFctrl 0 = true ∧
      t.rd aOf.timeEpoch = BitVec.ofInt 32 (joinEpoch q)
  | _ => t.f (aOf.timeEw0 (fld (q.w 2) 0 3)) 0 24 = fld (q.w 3) 0 24 ∧ t.rd (aOf.timeEw1 (fld (q.w 2) 0 3)) = q.w 4 ∧
      t.rd (aOf.timeEw2 (fld (q.w 2) 0 3)) = q.w 5

/-- The first fragment of a pour from a host, with the opcode of its command, is accepted into flight (R24, R58 to R64, R72, R74,
R81): it is the next in merge order, port and engine take it, its header is sound and its number free, it follows the sequence,
its codes, geometry and extent fit, there is room, it is not late under STRICT, and the CRC of a pour it completes matches. -/
def State.takesPour (s : State) (op : PourOp) (g : PourFrag) : Bool :=
  let f := g.ofOp op
  (s.takeIngress f).isSome && s.alive && s.part.hasPort f.port && s.domOn pdPipe && !s.refusing f.port && f.hdr.fragIdx == 0#16 && f.hdr.good &&
  (op != .segWrite || s.part.hasSeg) &&
  (match s.seqCheck (s.streamOf f.port) f.hdr.seq f.hdr.pourId with | .pass _ => true | _ => false) &&
  (s.findPour ⟨false, f.hdr.pourId⟩).isNone && codesOk op f.hdr && geometryOk s.part op f.hdr && extentOk op f 0 &&
  s.resourcesOk false op f.hdr && !f.hdr.strict && (!f.hdr.last || crc32c f.payload == f.hdr.crc)

/-- Pours the lamp manager injects go out at once: none waits before them, the engine runs and no flush does, and there is light
or the lamp leaves OFF (R244). -/
def State.feedsNow (s : State) : Bool :=
  s.fw.loads.isEmpty && s.domOn pdPipe && !s.pour.flushing && (s.fw.leaving.isSome || s.fw.lamp != .off)

/-- The lamp manager's next pour is accepted into flight (R72, R244). -/
def State.injects (s : State) (op : PourOp) (target : Nat) (w2 w3 : Word) (switch : Bool) (bs : List Byte) : Bool :=
  let h := injectHdr op s.fw.injectId target w2 w3 switch bs
  let f : PourFrag := { port := .p0, tv := false, stamp := 0#32, hdr := h, payload := bs }
  (s.findPour ⟨true, h.pourId⟩).isNone && codesOk op h && geometryOk s.part op h && extentOk op f 0 && s.resourcesOk true op h

/-- The read of internal address `a` that the debug window still goes on with (R231), if there is one. -/
def State.dbgFound (s : State) (a : Nat) : Option DbgRead :=
  s.cpu.dbgRead.find? (fun r => decide (s.extNs ≤ r.since + 100000) && r.addr == a)

/-- The other reads it goes on with. -/
def State.dbgRest (s : State) (a : Nat) : List DbgRead :=
  s.cpu.dbgRead.filter (fun r => decide (s.extNs ≤ r.since + 100000) && r.addr != a)

/-- No request waits for the end of a pour of the lamp manager. -/
def State.noPourWaits (s : State) : Bool :=
  s.fw.requests.all (fun r => match r.wait with | .pour _ | .maskLine _ => false | _ => true)

/-- The NV array an NV_READ meets (R285, R287): what SECDED finds in its groups, and the units queued before it written where one
waits for a page it reads. -/
def State.nvMet (s : State) (q : Msg) (faults : List (Nat × EccResult)) : State :=
  let u := s.when s.nvOn (fun s => faults.foldl (fun s f => s.nvMark f.1 f.2) s)
  if (List.range (fld (q.w 2) 0 4)).any (fun i => u.nv.queue.any (fun x => x.1 / 4096 == ((q.w 1).toNat + 4 * i) / 4096)) then u.nvDrain
  else u

/-- A run of commands that all answer a next state. -/
inductive Reaches : State → State → Prop
  | refl (s : State) : Reaches s s
  | step {s t u : State} : Reaches s t → Sys2Proof.Machine.step t = .next u → Reaches s u

end Sys2Proof.Machine
end

