-- ==== Sys2Proof/Certificates/Slice0/Obligations.lean ====
section
/-! DEFINITION. The statements about the block, for the provers: what a step is, what every command keeps, what each
family of commands may change, and where each command has its own effect. -/

open Sys2Proof Sys2Proof.Machine

/-! ### Steps, reset and what every command keeps -/

/-- A step with a command at the front of the queue is `exec` of it on the state with the queue's rest. -/
def Obligations.StepRunsFrontCommand : Prop :=
  ∀ (c : Instr) (rest : List Instr) (s : State), s.pending = c :: rest →
    step s = exec c { s with pending := rest }

/-- Every command answers a next state, and leaves the commands that wait as they are. -/
def Obligations.EveryCommandAnswersNext : Prop :=
  ∀ (c : Instr) (s : State), ∃ t, exec c s = .next t ∧ t.pending = s.pending

/-- The state after reset: nothing waits, the device runs in STANDBY (R265) with PD_AON, PD_NV, PD_CTRL and both host
domains ON and every other domain OFF, every register word reads its reset value, TIME_NS is 0 and frame edges are off,
firmware has not started, and no event is latched. Registers without a reset value in the manual read the values of
assumption 2. -/
def Obligations.ResetState : Prop :=
  State.reset.pending = [] ∧ State.reset.alive = true ∧ State.reset.device = 2 ∧
  (∀ d, d < 12 → (State.reset.domOn d = true ↔ d ∈ [0, 1, 2, 3, 11])) ∧
  (∀ d, d ∈ [4, 5, 6, 7, 8, 9, 10] → State.reset.dstate d = 0) ∧
  (∀ a, State.reset.rd a = resetValue .uh6440 a) ∧
  State.reset.time.ns = 0#32 ∧ State.reset.time.running = false ∧ State.reset.fw.started = false ∧
  (∀ n, n < 1024 → State.reset.evSet n = false)

/-- After reset every memory and the register file are in canonical form. -/
def Obligations.MemoryFormAtReset : Prop := Memory.wf State.reset = true

/-- Every step keeps the canonical form of the register file, the Crucible, the Tundish, the NV array, the retention
memory and the external flash: keys strictly rising, and no entry equal to what an unlisted address reads as. -/
def Obligations.EveryStepKeepsMemoryForm : Prop :=
  ∀ s t : State, Memory.wf s = true → step s = .next t → Memory.wf t = true

/-- No step undoes a fuse: the variant and the unique ID stand, the anti-rollback count never falls (R214), and the
lifecycle state moves only forward (R215). -/
def Obligations.EveryStepKeepsFuses : Prop :=
  ∀ s t : State, step s = .next t → FusesKept s t

/-! ### Frames -/

/-- The commands of the host ports, of network time and of gPTP change at most the units and registers of their frame;
FRAME_RECEIVE, which hands a frame to the pour engine or to firmware, has none. -/
def Obligations.FramesOfPortsAndTime : Prop :=
  ∀ (c : Instr) (s t : State), familyOf c ∈ [Family.hostPort, Family.time, Family.gptp] → c.wf = true → exec c s = .next t →
    ∀ f ∈ frameOf c, Within f.1 f.2 s t

/-- The commands of the pour stream and of the pour engine change at most the units and registers of their frame: no
network time, no link, no thermal state, no Tundish, no NV byte. -/
def Obligations.FramesOfPours : Prop :=
  ∀ (c : Instr) (s t : State), familyOf c ∈ [Family.pour, Family.engine] → c.wf = true → exec c s = .next t →
    ∀ f ∈ frameOf c, Within f.1 f.2 s t

/-- The commands of the frame and of the Temper engine change at most the units and registers of their frame. -/
def Obligations.FramesOfFrameAndTemper : Prop :=
  ∀ (c : Instr) (s t : State), familyOf c ∈ [Family.frame, Family.temper] → c.wf = true → exec c s = .next t →
    ∀ f ∈ frameOf c, Within f.1 f.2 s t

/-- The commands of the driver link and of the segment port change at most the units and registers of their frame. -/
def Obligations.FramesOfLinkAndSegment : Prop :=
  ∀ (c : Instr) (s t : State), familyOf c ∈ [Family.link, Family.segment] → c.wf = true → exec c s = .next t →
    ∀ f ∈ frameOf c, Within f.1 f.2 s t

/-- The commands of the Crucible and of the Tundish change at most the units and registers of their frame. -/
def Obligations.FramesOfCrucibleAndTundish : Prop :=
  ∀ (c : Instr) (s t : State), familyOf c ∈ [Family.crucible, Family.tundish] → c.wf = true → exec c s = .next t →
    ∀ f ∈ frameOf c, Within f.1 f.2 s t

/-- The commands of the control processors and of the mailboxes change at most the units and registers of their
frame; FIRMWARE_START and DEBUG_ACCESS_COMPLETE, which can reach any register, have none. -/
def Obligations.FramesOfProcessorsAndMailboxes : Prop :=
  ∀ (c : Instr) (s t : State), familyOf c ∈ [Family.processor, Family.mailbox] → c.wf = true → exec c s = .next t →
    ∀ f ∈ frameOf c, Within f.1 f.2 s t

/-- Adquel requests, and what firmware does on its own, change at most the units and registers of their frame. -/
def Obligations.FramesOfMessages : Prop :=
  ∀ (c : Instr) (s t : State), familyOf c = Family.message → c.wf = true → exec c s = .next t →
    ∀ f ∈ frameOf c, Within f.1 f.2 s t

/-- The commands of the power controller change at most the units and registers of their frame; a domain that comes ON
or goes off, the end of a DMA transfer and power-up have none. -/
def Obligations.FramesOfPower : Prop :=
  ∀ (c : Instr) (s t : State), familyOf c = Family.power → c.wf = true → exec c s = .next t →
    ∀ f ∈ frameOf c, Within f.1 f.2 s t

/-- The commands of the NV store, of the sensors and the reads that clear change at most the units and registers of
their frame. -/
def Obligations.FramesOfStoreAndSensors : Prop :=
  ∀ (c : Instr) (s t : State), familyOf c ∈ [Family.store, Family.sensor, Family.clearOnRead] → c.wf = true → exec c s = .next t →
    ∀ f ∈ frameOf c, Within f.1 f.2 s t

/-- No byte of the Crucible changes through a scrub read, a repair, a retirement or a Temper tick: the Fettler moves
words between banks without changing what the window shows (R192). -/
def Obligations.CrucibleBytesStand : Prop :=
  ∀ (c : Instr) (s t : State) (a off bank bad : Nat) (found : ScrubResult) (pass : Bool) (faults : List CruFault),
    c ∈ [.scrubRead off found, .columnFillEnd faults, .rowCopyEnd faults, .scrubPassEnd, .bankRetire bank bad,
      .retirementQueuedStart bad, .retirementCopyEnd pass faults, .retirementMarchEnd pass, .temperTick] →
    exec c s = .next t → t.cruByte a = s.cruByte a

/-! ### Shared rules -/

/-- An event source occurs (R22, R232). While PD_CTRL is powered and its status is 0: the status sets, every other status
stands, EVT_TIME takes the local stamp, within 4 ns of TIME_NS (600 ns for a source of PD_AON), and the doorbell bit its
route names sets exactly when the source is enabled, a route to bit 0 acting as bit 1 (R233). An occurrence while the
status is 1, or while PD_CTRL is off, changes nothing. -/
def Obligations.EventOccurrence : Prop :=
  ∀ (s : State) (n : Nat) (d : Word), n < 1024 →
    (s.domLive pdCtrl = true → s.evSet n = false →
      (s.raiseD n d).evSet n = true ∧
      (∀ m, m < 1024 → m ≠ n → (s.raiseD n d).evSet m = s.evSet m) ∧
      (s.raiseD n d).rd (aOf.evtTime n) = s.stampOf (fromAon n) ∧
      ((s.stampOf (fromAon n) - s.time.ns + (if fromAon n then 600#32 else 4#32)).toNat ≤ if fromAon n then 1200 else 8) ∧
      (∀ t, t < 4 → (s.raiseD n d).dbBits t =
        if s.evEn n && s.routeOf n / 64 == t then
          s.dbBits t ||| BitVec.ofNat 32 (2 ^ (if s.routeOf n % 32 = 0 then 1 else s.routeOf n % 32))
        else s.dbBits t)) ∧
    (s.evSet n = true → s.raiseD n d = s) ∧ (s.domLive pdCtrl = false → s.raiseD n d = s)

/-- A reply (R224, R236, R242): none is posted to a sender whose generation has changed; one that can leave at once goes
out, whole, after what was sent before it, over a port in the control stream to the source of its request with its VLAN tag; over a
port whose link is down it is discarded and counted. -/
def Obligations.RepliesLeave : Prop :=
  ∀ (s : State) (op : BitVec 8) (q : Msg) (st d : Nat) (ws : List Word),
    (q.gen.toNat ≠ s.gen 0 → s.reply op q st d ws = s) ∧
    (q.gen.toNat = s.gen 0 → s.answersNow q (2 + (if st = 0 then ws else []).length) = true →
      (s.reply op q st d ws).out = s.out ++ [s.replyTo op q st d ws]) ∧
    (∀ p, q.gen.toNat = s.gen 0 → q.route = .port p → (s.hostPort p).up = false →
      (s.reply op q st d ws).out = s.out ∧ (s.reply op q st d ws).fw.repliesLost = s.fw.repliesLost + 1)

/-- The mask gate (R37, R51): g is the least of 1 and of 1 − c × D over the valid masks whose TTL has not run out, in units of
1/65,536, where D stands for DEPTH ÷ 256, and 255 for exactly 1; S6 multiplies the drive of S5 by g and rounds half to even to U0.20. -/
def Obligations.MaskGate : Prop :=
  (∀ a, a ≤ 254 → f8 a = a) ∧ f8 255 = 256 ∧
  (∀ (s : State) (o : Int × Int),
    s.gate o ≤ 65536 ∧
    (∀ e ∈ s.beam.masks, e.2.inForce = true →
      s.gate o ≤ 65536 - (e.2.cover (s.content e.2.offsetEn o)).toNat * f8 e.2.depth) ∧
    (s.gate o = 65536 ∨ ∃ e ∈ s.beam.masks, e.2.inForce = true ∧
      s.gate o = 65536 - (e.2.cover (s.content e.2.offsetEn o)).toNat * f8 e.2.depth)) ∧
  (∀ (s : State) (b : Bool) (ds : List Defect) (r : Nat) (g : Region) (x y : Nat),
    let d5 := sat20 (roundEven ((s.shade b ds r g x y).drive * (s.factors (tileOf x y)).f : Nat) 16384)
    (s.shade b ds r g x y).level = s.curve b g.plane
      (sat20 (roundEven (d5 * s.gate (s.optical b r (x - g.x0) (y - g.y0)) : Nat) 65536)))

/-- Conversion tables. The transfer curve of a plane takes bits 19:0 of its 4,096 words as levels, interpolates between
neighbours by the low 8 bits of the drive, the last word against itself, and saturates (R96). An NTC code interpolates the
65-entry table of TMP_NTC, one table for every input, whose readings are the codes the ADC delivered (R110). Both round half to
even. -/
def Obligations.ConversionTables : Prop :=
  (∀ (s : State) (b : Bool) (p d : Nat),
    let e (i : Nat) : Int := (s.setWord b (offCurve p + 4 * i)).toNat % 2 ^ 20
    let e1 : Int := if d / 256 < 4095 then e (d / 256 + 1) else e 4095
    s.curve b p d = sat20 (roundEven (e (d / 256) * 256 + (e1 - e (d / 256)) * (d % 256 : Nat)) 256)) ∧
  (∀ (s : State) (j c : Nat) (v : Int), s.f (aOf.calAin j) 0 12 = c → s.ntcReading j = some v →
    let n (i : Nat) : Int := sx 16 (s.f (aOf.tmpNtc i) 0 16)
    v = roundEven (n (c / 64) * 64 + (n (c / 64 + 1) - n (c / 64)) * (c % 64 : Nat)) 64)

/-! ### Registers -/

/-- REGISTER_WRITE to a register that is reached and has no row of its own (R12, Table 00-5): its RW bits take the value,
its W1C bits clear and its W1S bits set where the value has a 1, and every other bit, register and unit stands. A write
over SPI is DENIED in PRODUCTION (R31), but for the host's doorbell mask. -/
def Obligations.RegisterWrite : Prop :=
  ∀ (m : Master) (a : Nat) (v : Word) (s : State) (r : RegRow),
    (s.canAccess a = true → a % 4 = 0 → s.plainReg m a v = true → regRow a = some r →
      (m = .spi → s.fuses.lifecycle ≠ .production ∧ a ≠ aOf.mbxDbmask 0) →
      ∃ t, exec (.registerWrite m a v) s = .next t ∧
        t.rd a = (((s.rd a &&& ~~~(BitVec.ofNat 32 r.rw)) ||| (v &&& BitVec.ofNat 32 r.rw)) &&& ~~~(v &&& BitVec.ofNat 32 r.w1c)) |||
          (v &&& BitVec.ofNat 32 r.w1s) ∧
        AtMost [] [a] s t ∧ t.out = []) ∧
    (s.alive = true → s.fuses.lifecycle = .production → a ≠ aOf.mbxDbmask 0 →
      ∃ t, exec (.registerWrite .spi a v) s = .next t ∧ Within [.fw, .ret] eventRegs s t ∧
        ∃ b, t.out = [.spi b 0#32] ∧ b % 16 = 4)

/-- The reads of registers with fields that clear on read (R12): the read answers the register as it reads before, its RC
bits clear, and nothing else changes. -/
def Obligations.ClearOnRead : Prop :=
  ∀ (s : State) (n : Fin 64) (p : Port) (d : Fin 4), ∀ x ∈
    ([(.pourResstatRead, aOf.pourResstat, 0x0FFF0000#32), (.pourErrcntRead, aOf.pourErrcnt, 0xFFFFFFFF#32),
      (.pipeErrcntRead, aOf.pipeErrcnt, 0xFFFFFFFF#32), (.tmpErrcntRead, aOf.tmpErrcnt, 0xFFFFFFFF#32),
      (.lnkErrRead n, aOf.laneErr n.val, 0xFFFFFFFF#32), (.lnkErr2Read n, aOf.laneErr2 n.val, 0xFF00FFFF#32),
      (.lnkPrbsRead n, aOf.lanePrbs n.val, 0x00FFFFFF#32), (.lnkAlm1Read n, aOf.laneAlm1 n.val, 0xFFFF0000#32),
      (.timeTxq2Read p, aOf.timeTxq2 p.idx, 0x0FFF0000#32), (.cruUeRead, aOf.cruUe, 0xF8000000#32),
      (.tunEccRead, aOf.tunEcc, 0xFFF00000#32), (.mbxCntRead d, aOf.mbxCnt d.val, 0xFF000000#32),
      (.pwrDoneRead, aOf.pwrDone, 0x20000000#32), (.nvcStatRead, aOf.nvcStat, 0xFF000000#32),
      (.nvcWearRead, aOf.nvcWear, 0x20000000#32), (.nvcEccRead, aOf.nvcEcc, 0xFFF00000#32)] : List (Instr × Nat × Word)),
    s.canAccess x.2.1 = true →
    ∃ t, exec x.1 s = .next t ∧ t.out = [.data (s.regView x.2.1)] ∧ t.rd x.2.1 = s.rd x.2.1 &&& ~~~x.2.2 ∧
      AtMost [] [x.2.1] s t

/-! ### Network time -/

/-- A write to TIME_SET (R172): with EN = 0 TIME_NS takes the value and TIME_FRAC clears, TIME_WRAP stands, and running firmware
adjusts base_ns, so that the extended time is what it was; with EN = 1 the write is ignored and event 67 is raised. -/
def Obligations.TimeSet : Prop :=
  ∀ (s : State) (v : Word), s.canAccess aOf.timeSet = true →
    (s.bit aOf.timeFctrl 0 = false →
      ∃ t, exec (.timeSet v) s = .next t ∧ t.time.ns = v ∧ t.time.frac = 0#32 ∧ t.time.wrap = s.time.wrap ∧
        (s.fwRuns = true → t.nowExt = s.nowExt) ∧ AtMost [.time, .link, .cpu, .fw, .cal] [] s t) ∧
    (s.bit aOf.timeFctrl 0 = true →
      ∃ t, exec (.timeSet v) s = .next t ∧ t = s.begin.raise 67 ∧ t.time = s.time ∧ (s.domOn pdCtrl = true → t.evSet 67 = true))

/-- TIME_NS_READ answers TIME_NS and latches TIME_FRAC and TIME_WRAP in the same cycle (R171). TIME_ADJ replaces the adjustment
in progress, and an offset above THR sets CAPPED and raises event 66 (R173). -/
def Obligations.TimeRegisters : Prop :=
  ∀ (s : State) (v : Word),
    (s.canAccess aOf.timeNs = true →
      ∃ t, exec .timeNsRead s = .next t ∧ t.out = [.data s.time.ns] ∧
        t.time = { s.time with latFrac := s.time.frac, latWrap := s.time.wrap } ∧ AtMost [.time] [] s t) ∧
    (s.canAccess aOf.timeAdj = true →
      ∃ t, exec (.timeAdj v) s = .next t ∧
        t.time = { s.time with
          adjRem := sx 32 v.toNat * 2 ^ 48, capped := decide (s.f aOf.timeStepthr 0 24 < (sx 32 v.toNat).natAbs) } ∧
        (t.time.capped = true → s.domOn pdCtrl = true → t.evSet 66 = true) ∧
        (t.time.capped = false → AtMost [.time] [] s t))

/-- Time passes. ADJUST_END lets exactly the cycles pass that absorb the rest of the adjustment: after them TIME_ADJREM is 0 and
CAPPED clear, after fewer it is not yet 0 (R173). TIME_NS_WRAP lets the cycles pass up to the one in which TIME_NS passes 2^32, with
or without an adjustment: on it, and not before, TIME_WRAP advances by 1 (R171). Both change the time base and the seconds counters
alone. A step on an empty queue lets one cycle pass (assumption 6): with no adjustment, 2^-48 ns times the increment of R170, and
never a frame edge. -/
def Obligations.TimePasses : Prop :=
  ∀ s : State, s.alive = true → s.domLive pdCtrl = true →
    (s.time.adjRem ≠ 0 →
      ∃ t n, exec .adjustEnd s = .next t ∧ t = s.begin.advance n ∧ t.time.adjRem = 0 ∧ t.time.capped = false ∧
        (∀ m, m < n → (s.advance m).time.adjRem ≠ 0) ∧ Within [.time, .pwr] [.pwrLitsec, .pwrPwrsec] s t) ∧
    (∃ t n, exec .timeNsWrap s = .next t ∧ t = s.begin.advance n ∧ t.time.wrap = s.time.wrap + 1#32 ∧
      (∀ m, m < n → (s.advance m).time.wrap = s.time.wrap) ∧ Within [.time, .pwr] [.pwrLitsec, .pwrPwrsec] s t) ∧
    (s.pending = [] → s.time.adjRem = 0 →
      ∃ t, step s = .next t ∧ t.time.now48 = ((s.time.now48 : Int) + s.incOf 0).toNat % 2 ^ 80 ∧
        t.time.nextTe = s.time.nextTe ∧ t.pipe = s.pipe)

/-- Frame edges on and off, and the frame period (R181, R182). Setting EN starts edges at the first frame from TIME_FSTART
on whose te lies at least 20 µs ahead, with its number; skipped frames set SKIPPED and raise event 70. Clearing EN stops
them, and a Temper step that waits then loads its period, in place of a period that waits (PDISC, event 71). A period written while
EN = 1 waits for the next edge, and stands at once while EN = 0; where the edge it would wait for takes a Temper step's period, it
gives way, with PDISC and event 71. -/
def Obligations.FrameEdges : Prop :=
  ∀ (s : State) (v : Word),
    (s.canAccess aOf.timeFctrl = true → s.bit aOf.timeFctrl 0 = false →
      ∃ t, exec .frameEdgesEnable s = .next t ∧ t.bit aOf.timeFctrl 0 = true ∧ t.time.running = true ∧
        t.time.nextK = s.rd aOf.timeFstart + BitVec.ofNat 32 s.firstSkip ∧
        t.time.nextTe = s.rd aOf.timeEpoch + BitVec.ofNat 32 ((s.rd aOf.timeFstart).toNat * s.periodNs) + BitVec.ofNat 32 (s.firstSkip * s.periodNs) ∧
        (t.time.nextK ≠ s.rd aOf.timeFstart → s.domOn pdCtrl = true → t.evSet 70 = true ∧ t.bit aOf.timeFctrl 31 = true)) ∧
    (s.canAccess aOf.timeFctrl = true → s.bit aOf.timeFctrl 0 = true →
      ∃ t, exec .frameEdgesDisable s = .next t ∧ t.bit aOf.timeFctrl 0 = false ∧ t.time.running = false ∧ t.time.pendPeriod = none ∧
        (∀ x, s.temper.step = some x → t.f aOf.timePeriod 0 25 = s.stepNs x ∧
          (s.time.pendPeriod ≠ none → s.time.pendTemper = false → t.bit aOf.timeFctrl 30 = true ∧ t.evSet 71 = true))) ∧
    (s.canAccess aOf.timePeriod = true → s.bit aOf.timeFctrl 0 = true → s.time.pendTemper = true →
      ∃ t, exec (.periodWrite v) s = .next t ∧ t.time = s.time ∧ t.rd aOf.timePeriod = s.rd aOf.timePeriod ∧
        t.bit aOf.timeFctrl 30 = true ∧ t.evSet 71 = true) ∧
    (s.canAccess aOf.timePeriod = true → (s.bit aOf.timeFctrl 0 = false ∨ s.time.pendTemper = false) →
      ∃ t, exec (.periodWrite v) s = .next t ∧ t.f aOf.timePeriod 0 25 = v.toNat % 2 ^ 25 ∧
        t.time = { s.time with pendPeriod := if s.bit aOf.timeFctrl 0 then some (v.toNat % 2 ^ 25) else s.time.pendPeriod } ∧
        AtMost [.time] [aOf.timePeriod] s t)

/-- TXQ_POP removes the oldest transmit stamp of a port and nothing else (R179). A selected edge on a SYNC pin is stamped in
TIME_SYNC of its pin (R185); an edge that is not selected changes nothing. -/
def Obligations.StampsOfTime : Prop :=
  ∀ (s : State) (p : Port) (i : Fin 4) (rising : Bool),
    (s.canAccess (aOf.timeTxq2 p.idx) = true →
      ∃ t, exec (.txqPop p) s = .next t ∧ t.txq p = (s.txq p).drop 1 ∧ (∀ q, q ≠ p → t.txq q = s.txq q) ∧ AtMost [.time] [] s t) ∧
    (s.alive = true → s.domLive pdCtrl = true →
      (s.f aOf.timeSynccfg (2 * i.val) 2 = 3 ∨ (s.f aOf.timeSynccfg (2 * i.val) 2 = 1 ∧ rising = true) ∨
        (s.f aOf.timeSynccfg (2 * i.val) 2 = 2 ∧ rising = false) →
        ∃ t, exec (.syncPinEdge i rising) s = .next t ∧ t.rd (aOf.timeSync i.val) = s.stampOf false) ∧
      (s.f aOf.timeSynccfg (2 * i.val) 2 = 0 → exec (.syncPinEdge i rising) s = .next s.begin))


/-! ### Host ports and pours -/

/-- Received frames (R16 to R18, R24, R55, R178, R210) of a port that receives. With at most one VLAN tag: a gPTP frame reaches
firmware with the stamp of its MAC, and the active core is told; a pour fragment of the port's stream joins the waiting ones in
merge order; a MACsec control frame reaches firmware with its stamp; a pour fragment that finds PD_PIPE off is counted as a drop
with event 128. A frame that fits no row of the classifier, one with no message in it or one with a second VLAN tag is dropped and
counted with event 81 + 16p, and a frame with a bad frame check sequence, a MACsec failure or a full FIFO raises events 83, 84 and
82 + 16p. -/
def Obligations.FramesReceived : Prop :=
  ∀ (s : State) (p : Port) (f : RxFrame), s.portOn p = true → (s.hostPort p).up = true →
    (f.tags.length ≤ 1 →
      (∀ bytes, f.body = .gptp bytes → f.etherType = 0x88F7#16 →
        ∃ t, exec (.frameReceive p .good f) s = .next t ∧ t.out = [.notify s.active.idx] ∧
          t.hostPort p = { s.hostPort p with gptp := (s.hostPort p).gptp ++ [(bytes, s.macStamp)] }) ∧
      (∀ n frag, f.body = .vsf n frag → isVsf f = true → s.domOn pdPipe = true → s.pourTest p f = true →
        ∃ t, exec (.frameReceive p .good f) s = .next t ∧
          t.pour.ingress = mergeIn (·.port.idx) (s.stampOf false) { frag with port := p } s.pour.ingress) ∧
      (∀ n frag, f.body = .vsf n frag → isVsf f = true → s.domOn pdPipe = false →
        ∃ t, exec (.frameReceive p .good f) s = .next t ∧ (t.hostPort p).drops = (s.hostPort p).drops + 1 ∧
          (s.domOn pdCtrl = true → t.evSet 128 = true)) ∧
      (∀ bytes, f.body = .macsecCtl bytes → f.etherType = 0x888E#16 →
        ∃ t, exec (.frameReceive p .good f) s = .next t ∧ t.out = [.notify s.active.idx] ∧
          t.fw.ctlFrames = s.fw.ctlFrames ++ [(bytes, s.macStamp)])) ∧
    (1 < f.tags.length ∨ f.body = .other ∨ f.body = .ntscf [] →
      ∃ t, exec (.frameReceive p .good f) s = .next t ∧ (t.hostPort p).drops = (s.hostPort p).drops + 1 ∧
        (s.domOn pdCtrl = true → t.evSet (81 + 16 * p.idx) = true)) ∧
    (s.domOn pdCtrl = true →
      (∃ t, exec (.frameReceive p .fifoFull f) s = .next t ∧ t.evSet (82 + 16 * p.idx) = true ∧ t.pour = s.pour) ∧
      (∃ t, exec (.frameReceive p .badFcs f) s = .next t ∧ t.evSet (83 + 16 * p.idx) = true ∧ t.pour = s.pour) ∧
      (∃ t, exec (.frameReceive p .macsecFail f) s = .next t ∧ t.evSet (84 + 16 * p.idx) = true ∧ t.pour = s.pour)) ∧
    (∀ bytes, ∃ t, exec (.macsecControlFrame p .good bytes) s = .next t ∧ t.fw.ctlFrames = s.fw.ctlFrames ++ [(bytes, s.macStamp)])

/-- Transmission, link and wake of a host port (R18, R178, R179). A frame goes out; a gPTP event message is stamped by its MAC, in ns
and 1/256 ns, with the port's egress latency added, tagged with messageType and sequenceId and queued, or on a queue of 16
dropped with event 64 + p; a packet number at its limit raises event 85 + 16p, a change of the link 80 + 16p, and a fall of
HWAKEp_N 86 + 16p. -/
def Obligations.PortEvents : Prop :=
  ∀ (s : State) (p : Port),
    (s.portOn p = true → (s.hostPort p).up = true →
      (∃ t, exec (.hostFrameTransmit p none false) s = .next t ∧ t = s.begin.emit (.frame p)) ∧
      (∀ (g : GptpTag) (pn : Bool),
        ∃ t, exec (.hostFrameTransmit p (some g) pn) s = .next t ∧ t.out = [.frame p] ∧
          ((s.txq p).length < 16 →
            let v := s.macStamp + BitVec.ofNat 40 (s.f (aOf.timeLat p.idx) 16 16 * 256)
            t.txq p = s.txq p ++ [⟨stampNs v, v.setWidth 8, g.messageType ++ g.seqId⟩]) ∧
          (16 ≤ (s.txq p).length → t.txq p = s.txq p ∧ (s.domOn pdCtrl = true → t.evSet (64 + p.idx) = true)) ∧
          (pn = true → s.domOn pdCtrl = true → t.evSet (85 + 16 * p.idx) = true))) ∧
    (s.portOn p = true →
      (∃ t, exec (.link p .up) s = .next t ∧ (t.hostPort p).up = true ∧ (s.domOn pdCtrl = true → t.evSet (80 + 16 * p.idx) = true)) ∧
      (∃ t, exec (.link p .down) s = .next t ∧ (t.hostPort p).up = false ∧ (s.domOn pdCtrl = true → t.evSet (80 + 16 * p.idx) = true)) ∧
      (∃ t, exec (.link p .newRate) s = .next t ∧ t.hostPort p = s.hostPort p ∧ (s.domOn pdCtrl = true → t.evSet (80 + 16 * p.idx) = true))) ∧
    (s.alive = true → s.part.hasPort p = true → s.domOn (pdHost p) = true → s.domOn pdCtrl = true →
      ∃ t, exec (.phyWake p) s = .next t ∧ t.evSet (86 + 16 * p.idx) = true ∧ Within [.fw, .ret] eventRegs s t)

/-- Acceptance of a pour's first fragment, opcode by opcode, next in merge order (R24, R58 to R65, R71, R72, R81): the pour enters
flight under its POUR_ID with its header, opcode and payload and the tiles its rectangle touches, complete when the fragment is the LAST; its stream
expects the next SEQ. A MASK_SET or MASK_CLEAR whose LAST fragment and records check is armed (R78). -/
def Obligations.PoursAccepted : Prop :=
  ∀ (s : State) (f : PourFrag), ∀ x ∈ ([(.writeRect, .writeRect f), (.fillRect, .fillRect f), (.maskSet, .maskSet f),
      (.maskClear, .maskClear f), (.patternWrite, .patternWrite f), (.glyphWrite, .glyphWrite f), (.layerSet, .layerSet f),
      (.meshWrite, .meshWrite f), (.tableWrite, .tableWrite f), (.segWrite, .segWrite f), (.fence, .fence f),
      (.abort, .abortPour f)] : List (PourOp × Instr)),
    s.takesPour x.1 f = true → (x.1 = .abort → f.hdr.last = false) →
    (x.1 = .maskSet → f.hdr.last = true → (maskRecords f.payload f.hdr.wd).all maskOk = true) →
    ∃ t p, exec x.2 s = .next t ∧ t.findPour ⟨false, f.hdr.pourId⟩ = some p ∧ p.op = x.1 ∧ p.hdr = (f.ofOp x.1).hdr ∧ p.port = f.port ∧
      p.payload = f.payload ∧ p.nextIdx = 1 ∧ p.complete = f.hdr.last ∧ p.slots = slotsNeeded x.1 f.hdr ∧
      p.tiles = (if x.1.cls = .tile then tilesOf f.hdr else []) ∧
      p.launch = (if f.tv = true ∧ x.1.cls ≠ .control then some f.stamp else none) ∧
      (x.1.cls = .mask → f.hdr.last = true → p.phase = .armed) ∧
      t.exp (s.streamOf f.port) = some (f.hdr.seq + 1#32)

/-- Later fragments, their time limit and aborts (R61, R62): a fragment that is next in order, begins where the bytes so far end and
agrees with its pour's header, the opcode with it, joins the payload, the LAST one with a matching CRC completing the pour; one that matches no
pour in flight is an orphan and is counted. A pour whose LAST has not come when FRAG_TMO ends leaves flight with TIMEOUT.
An ABORT acts at the acceptance of its LAST fragment (R76): a target in flight that has not committed leaves flight, a
committed one stays, and the ABORT itself ends. -/
def Obligations.FragmentsAndAborts : Prop :=
  ∀ (s : State) (f : PourFrag) (p : Pour) (key : PourKey),
    (s.pourOn = true → s.part.hasPort f.port = true → s.refusing f.port = false → f.hdr.fragIdx ≠ 0#16 → (s.takeIngress f).isSome = true →
      (s.findPour ⟨false, f.hdr.pourId⟩ = some p → p.port = f.port → p.complete = false → f.hdr.good = true →
        f.hdr.fragIdx.toNat = p.nextIdx →
        sameHead f.hdr p.hdr = true → extentOk p.op f p.payload.length = true →
        (f.hdr.last = true → p.op.cls ≠ .mask ∧ p.op ≠ .abort ∧ crc32c (p.payload ++ f.payload) = f.hdr.crc) →
        ∃ t, exec (.pourFragment f) s = .next t ∧ t.findPour ⟨false, f.hdr.pourId⟩ =
          some { p with payload := p.payload ++ f.payload, nextIdx := p.nextIdx + 1, complete := f.hdr.last }) ∧
      ((∀ q ∈ s.pour.flight, ¬ (q.key = ⟨false, f.hdr.pourId⟩ ∧ q.port = f.port ∧ q.complete = false)) →
        ∃ t, exec (.pourFragment f) s = .next t ∧ t.pour.flight = s.pour.flight ∧
          t.f aOf.pourErrcnt 16 16 = min (s.f aOf.pourErrcnt 16 16 + 1) 65535)) ∧
    (s.pourOn = true → s.findPour key = some p → p.complete = false →
      ∃ t, exec (.fragTimeout key) s = .next t ∧ t.findPour key = none ∧
        (s.pour.results.length < 1024 →
          ({ id := p.key.id, status := 7, inj := p.key.injected, port := p.port, late := p.late, frame := s.frameNo } : PourResult)
            ∈ t.pour.results)) ∧
    (s.takesPour .abort f = true → f.hdr.last = true →
      ∃ t, exec (.abortPour f) s = .next t ∧ t.findPour ⟨false, f.hdr.pourId⟩ = none ∧
        (∀ q, s.findPour ⟨false, BitVec.ofNat 16 f.hdr.x0⟩ = some q →
          t.findPour ⟨false, BitVec.ofNat 16 f.hdr.x0⟩ =
            if q.phase = .copying ∨ (q.phase = .writing ∧ q.hdr.switch = false) then some q else none) ∧
        t.exp (s.streamOf f.port) = some (f.hdr.seq + 1#32))

/-- The pour engine's own work (R66 to R69, R75, R80), while the lamp manager has no pour waiting where one is taken up at its end. TILE_MERGE takes a tile whose runner is clear off its pour's merges;
STORE_COPY_END leaves the pour's bytes in the store; TABLE_POUR_WRITE starts the write of content that passes and ends a pour
whose content fails with INVALID, nothing written; TABLE_POUR_WRITE_END completes a pour without SWITCH and leaves one with
SWITCH waiting for its edge; SET_SYNC_END frees the inactive set; FENCE_COMPLETE ends the fence; POUR_RESULT_POP takes the
oldest record off the results. -/
def Obligations.PourEngine : Prop :=
  ∀ (s : State) (p : Pour) (key : PourKey) (tile : Nat), s.pourOn = true →
    (s.findPour key = some p → tile ∈ p.merges → (∀ q ∈ s.ahead key, tile ∉ q.tiles) →
      ∀ faults, ∃ t, exec (.tileMerge key tile faults) s = .next t ∧ t.findPour key = some { p with merges := p.merges.filter (· != tile) }) ∧
    (s.copying = some p → s.fw.loads = [] →
      ∃ t, exec .storeCopyEnd s = .next t ∧ t.findPour p.key = none ∧
        t.cruBytes ((if p.op = .glyphWrite then s.part.glyphBase else 0) + p.hdr.w2.toNat)
          (storeBytes p.op p.hdr.w2.toNat p.payload).length = storeBytes p.op p.hdr.w2.toNat p.payload) ∧
    (s.storeHead = some p → s.findPour p.key = some p → s.canWrite p = true → (p.launch = none ∨ p.seenDue = true) → s.fw.loads = [] →
      ∃ t, exec .tablePourWrite s = .next t ∧
        ((s.putChunks (!s.beam.setB) (tableChunks p)).tableOk (!s.beam.setB) p = true → t.findPour p.key =
          some { p with phase := .writing, frame := if p.hdr.switch then none else some s.frameNo }) ∧
        ((s.putChunks (!s.beam.setB) (tableChunks p)).tableOk (!s.beam.setB) p = false → p.undo = [] →
          t.findPour p.key = none ∧ (∀ a, t.cruByte a = s.cruByte a) ∧
          (s.pour.results.length < 1024 →
            ({ id := p.key.id, status := 2, inj := p.key.injected, port := p.port, late := p.late, frame := s.frameNo } : PourResult)
              ∈ t.pour.results))) ∧
    (s.storeHead = some p → s.findPour p.key = some p → p.phase = .writing → s.fw.loads = [] →
      ∃ t, exec .tablePourWriteEnd s = .next t ∧
        t.pour.written = s.pour.written ++ (tableChunks p).map (fun c => (c.1, c.2.length)) ∧
        (p.hdr.switch = false → t.findPour p.key = none) ∧
        (p.hdr.switch = true → ∃ u, t.findPour p.key = some { p with phase := .written, undo := u, undoFok := some s.pour.fokClear, slots := 0 })) ∧
    (s.pour.syncBusy = true → ∀ faults, ∃ t, exec (.setSyncEnd faults) s = .next t ∧ t.pour.syncBusy = false ∧ t.pour.syncing = []) ∧
    (s.pour.flight.find? (fun q => q.holds && q.op == .fence) = some p → s.fenceReady p = true →
      ∃ t, exec .fenceComplete s = .next t ∧ t.findPour p.key = none ∧
        (p.key.injected = false → p.key.id ∈ t.pour.committed)) ∧
    (exec .pourResultPop s = .next { s.begin with pour := { s.pour with results := s.pour.results.drop 1 } })

/-- Flush and streams (R83). FLUSH stops acceptance on both ports, discards what the classifiers hold and leaves in flight
only pours past their commit point and pours whose ABORTED record waits its turn; FLUSH_END clears FLUSH with event 131; an
enable of a stream from 0 resumes its acceptance and resets its EXP. -/
def Obligations.FlushAndStreams : Prop :=
  ∀ (s : State) (p : Port), s.pourOn = true →
    (s.pour.flushing = false →
      ∃ t, exec .flush s = .next t ∧ t.bit aOf.pourCtrl 8 = true ∧ t.refusing .p0 = true ∧ t.refusing .p1 = true ∧
        t.pour.ingress = [] ∧
        ∀ q ∈ t.pour.flight, q.phase = .flushed ∨ q.phase = .copying ∨ (q.phase = .writing ∧ q.hdr.switch = false)) ∧
    (s.pour.flushing = true → s.pour.flight = [] →
      ∃ t, exec .flushEnd s = .next t ∧ t.pour.flushing = false ∧ t.bit aOf.pourCtrl 8 = false ∧
        (s.domOn pdCtrl = true → t.evSet 131 = true)) ∧
    (s.part.hasPort p = true → s.bit aOf.pourCtrl p.idx = false →
      ∃ t, exec (.streamEnable p) s = .next t ∧ t.bit aOf.pourCtrl p.idx = true ∧ t.exp (s.streamOf p) = none ∧
        (s.pour.flushing = false → t.refusing p = false))

/-! ### Frames and the Temper engine -/

/-- The frame edge and what follows it (R19, R25, R29, R85, R175, R181, R182). An edge makes the next frame of the time base the
last and moves on by one period; with PD_PIPE ON it tags that frame in S1, active from its first row. A scanned row is
followed by the next, and one with a tag-parity error or an uncorrectable word poisons its frame; a launch is noted once and answers every reply that waited
for the frame; 16 poisoned frames place every forward lane in electrical idle with event 194. -/
def Obligations.FrameCommands : Prop :=
  ∀ (s : State) (row : Nat) (err : LineError),
    (s.alive = true → s.domLive pdCtrl = true → s.time.running = true →
      ∃ t, exec .frameStartEdge s = .next t ∧ t.time.lastK = s.time.nextK ∧ t.time.nextK = s.time.nextK + 1#32 ∧
        t.time.nextTe = s.time.nextTe + BitVec.ofNat 32 s.periodNs ∧ t.rd aOf.timeLast = s.time.nextTe ∧
        (s.domOn pdPipe = true → t.pipe.tag.number = s.time.nextK ∧ t.pipe.tag.te = s.time.nextTe ∧
          t.pipe.tag.period = s.periodNs ∧ t.pipe.active = true ∧ t.pipe.nextRow = 0 ∧ t.pipe.poisoned = false ∧
          t.pipe.launched = false ∧ t.rd aOf.pipeFrame = s.time.nextK)) ∧
    (s.pourOn = true → s.pipe.active = true → s.pipe.launched = false → s.lampDark = false →
      ∃ t, exec .frameLaunch s = .next t ∧ t.pipe = { s.pipe with launched := true } ∧
        ∀ r ∈ t.fw.requests, ∀ f, r.wait = .launch f → dueAt f s.pipe.tag.number = false) ∧
    (s.pourOn = true → s.pipe.active = true → s.pipe.nextRow = row → row < s.part.gridH →
      ∃ t, exec (.lineScan row err) s = .next t ∧ t.pipe.nextRow = row + 1 ∧ t.pipe.tag = s.pipe.tag ∧
        ((err = .tagParity ∨ ∃ off, err = .uncorrectable off) → t.pipe.poisoned = true) ∧ ∀ r ∈ t.fw.requests, r.wait ≠ .nextLine) ∧
    (s.pourOn = true → 16 ≤ s.poisonFrames → s.bit aOf.pipeStat 4 = false →
      ∃ t, exec .poisonHalt s = .next t ∧ t.bit aOf.pipeStat 4 = true ∧ (s.domOn pdCtrl = true → t.evSet 194 = true) ∧
        ∀ n, n < s.part.lanes → s.laneOn n = true → t.laneState n = lnIdle)

/-- Masks (R52, R53, R78). At a line boundary every armed mask pour that is due leaves flight with its records in the live
table, and none other does; a mask whose remaining count an edge found at 0 leaves the table. -/
def Obligations.MaskCommands : Prop :=
  ∀ (s : State) (i : Fin 256) (p : Pour), s.pourOn = true →
    (∃ t, exec .maskLineBoundary s = .next t ∧
      (∀ k q, t.findPour k = some q →
        s.findPour k = some q ∧ ¬ (q.phase = .armed ∧ ∀ l, q.launch = some l → dueAt l s.time.ns = true)) ∧
      (s.pour.flight = [p] → p.phase = .armed → p.launch = none → t.beam = (s.applyMasks p).beam ∧ t.pour.flight = [])) ∧
    ((s.mask i.val).valid = true → (s.mask i.val).ended = true →
      ∃ t, exec (.maskExpiry i) s = .next t ∧ t.mask i.val = { s.mask i.val with valid := false, ended := false } ∧
        ∀ j, j ≠ i.val → t.mask j = s.mask j)

/-- The Temper engine (R112, R118 to R122). The late tile rows of an earlier frame are updated first, in order, under that frame's
tag; then each tile row of the frame in S1 once, after its lines have left S4. A tick takes Tj, the power estimate, the Burst budget
B and the trip and allowance bits; a budget of 2 or less that a tick in BURST exhausts clears ALLOW with event 259 and makes a step; SHED ends with event 262; a step that waits loads its period and, with no operating-point sequence running, lowers
the operating point to its own. -/
def Obligations.TemperCommands : Prop :=
  ∀ (s : State) (row : Nat), s.alive = true → s.domOn pdPipe = true →
    (∀ l rest rows faults, s.temper.late = l :: rest → l.rows = row :: rows →
      ∃ t, exec (.tileRowUpdate row faults) s = .next t ∧ t.pipe.tag = s.pipe.tag ∧ t.temper.rowsDone = s.temper.rowsDone ∧
        (rows = [] → t.temper.late = rest) ∧
        (rows ≠ [] → ∃ fs, t.temper.late = { l with rows := rows, facs := fs } :: rest)) ∧
    (∀ faults, s.temper.late = [] → s.pipe.active = true → s.nextTileRow = some row →
      (row * 8 + 9 ≤ s.pipe.nextRow ∨ s.pipe.nextRow = s.part.gridH) →
      ∃ t, exec (.tileRowUpdate row faults) s = .next t ∧ t.temper.rowsDone = row :: s.temper.rowsDone) ∧
    (∃ t, exec .temperTick s = .next t ∧
      (∀ v, s.dieMax = some v → t.f aOf.tmpTj 0 16 = unsx 16 v % 65536) ∧ t.bit aOf.tmpStat 7 = s.dieMax.isNone ∧
      t.f aOf.tmpPest 0 16 = (Config.powerEstimate s.free).toNat % 65536 ∧
      t.f aOf.tmpBurst 0 16 =
        (if s.device = 4 then s.f aOf.tmpBurst 0 16 - 2
         else if s.device = 3 ∧ (Config.powerEstimate s.free).toNat < 4000 then min (s.f aOf.tmpBurst 0 16 + 1) 60000
         else s.f aOf.tmpBurst 0 16) ∧
      t.bit aOf.tmpStat 4 = (match s.dieMax with
        | none => true
        | some v => if 120 * 128 ≤ v then true else if v < 115 * 128 then false else s.bit aOf.tmpStat 4) ∧
      t.bit aOf.tmpStat 3 = (!t.bit aOf.tmpStat 4 && decide (0 < t.f aOf.tmpBurst 0 16))) ∧
    (s.device = 4 → s.bit aOf.tmpStat 3 = true → s.f aOf.tmpBurst 0 16 ≤ 2 →
      ∃ t, exec .burstExhausted s = .next t ∧ t.f aOf.tmpBurst 0 16 = 0 ∧ t.bit aOf.tmpStat 3 = false ∧
        t.temper.step.isSome = true ∧ (s.domOn pdCtrl = true → t.evSet 259 = true)) ∧
    (s.bit aOf.tmpStat 5 = true → s.temper.belowShed = true →
      ∃ t, exec .shedEnd s = .next t ∧ t.bit aOf.tmpStat 5 = false ∧ (s.domOn pdCtrl = true → t.evSet 262 = true) ∧
        Within [.fw, .ret] (.tmpStat :: eventRegs) s t) ∧
    (∀ o, s.temper.step = some o →
      ∃ t, exec .temperStep s = .next t ∧ t.temper.step = none ∧
        (o.loaded = false → t.f aOf.timePeriod 0 25 = s.stepNs o % 2 ^ 25) ∧
        (o.loaded = false → s.bit aOf.timeFctrl 0 = true → t.time.pendPeriod = some (s.stepNs o)) ∧
        (s.pwr.trans = none → s.pwr.stepTrans = none → o.op < 4 → t.op = min o.op s.op))

/-! ### The driver link -/

/-- Blocks of a return lane (R125 to R127, R132 to R134, R144, R145, R149, R150, R154, R155). The receiver descrambles what
arrives. While it is locked, with fewer than 16 of the last 64 headers invalid, a control block of the named type, its CRC-8
matching where the type has one, acts: ACK sets credit and the lock of its driver's lanes and counts a NAK, RBD counts its mismatches
and raises event 640 + n at most once in a frame, ALM is latched with its count and event 704 + n, a chunk of an image is placed by
its index and a complete good identity takes the slice to LOADING, FOM sets figures and, where it brings one, the driver
temperature, SYN shows the driver's lock and DONE. A data block, or a good block of another type, changes only what the receiver has
heard; an invalid header, an unknown type and a wrong CRC-8 are discarded and counted in BLK. The 16th invalid header of 64 ends block
lock, and 64 valid ones in a row begin it. -/
def Obligations.LinkBlocks : Prop :=
  ∀ (s : State) (n : Fin 64) (b : RxBlock), s.laneAlive n.val = true →
    let d := s.heard n.val b
    let l' := { (s.lane n.val).header b.header with rxHist := lineHistory b.payload }
    (s.bit (aOf.laneStat n.val) 4 = true → l'.badHeaders < 16 →
      (b.header = 2#2 → payCrcOk d = true →
        (payByte d 0 = 0x99 →
          ∃ t, exec (.ackReceive n b) s = .next t ∧
            (∀ i, s.sliceAt n.val = some i → (t.slice i).credit = payByte d 1) ∧
            (payByte d 4 % 2 = 1 → t.f (aOf.laneErr n.val) 0 16 = min (s.f (aOf.laneErr n.val) 0 16 + 1) 65535) ∧
            ∀ e ∈ (s.driverLanes n.val).zipIdx, t.bit (aOf.laneStat e.1) 5 = (payByte d 4 / 2 ^ (e.2 + 1) % 2 == 1)) ∧
        (payByte d 0 = 0xAA → ∀ i q, s.sliceAt n.val = some i → (s.slice i).queries.find? (fun q => q.tag == payByte d 1 % 16) = some q →
          ∃ t, exec (.rbdReceive n b) s = .next t ∧
            t.f (aOf.laneErr2 (s.sd i).first) 0 16 = min (s.f (aOf.laneErr2 (s.sd i).first) 0 16 + s.rbMisses i q d) 65535 ∧
            (0 < s.rbMisses i q d → (s.slice i).rbEvent ≠ some s.pipe.tag.number → s.domOn pdCtrl = true →
              t.evSet (640 + (s.sd i).first) = true) ∧
            ((s.slice i).rbEvent = some s.pipe.tag.number → t.evSet (640 + (s.sd i).first) = s.evSet (640 + (s.sd i).first))) ∧
        (payByte d 0 = 0xB4 →
          ∃ t, exec (.almReceive n b) s = .next t ∧
            t.rd (aOf.laneAlm0 n.val) = BitVec.ofNat 32 (payByte d 1 * 2 ^ 24 + payByte d 2 * 2 ^ 16 + payHalf d 3) ∧
            t.f (aOf.laneAlm1 n.val) 0 16 = payHalf d 5 ∧
            t.f (aOf.laneAlm1 n.val) 16 16 = min (s.f (aOf.laneAlm1 n.val) 16 16 + 1) 65535 ∧
            (s.domOn pdCtrl = true → t.evSet (704 + n.val) = true)) ∧
        (payByte d 0 = 0xD2 →
          ∃ t, exec (.fomReceive n b) s = .next t ∧
            (∀ e ∈ (s.driverLanes n.val).zipIdx, t.f (aOf.laneStat e.1) 8 8 = payByte d (1 + e.2)) ∧
            t.f (aOf.laneStat ((s.driverLanes n.val).headD n.val)) 16 16 =
              (if payByte d 5 % 2 = 1 then payHalf d 3 else s.f (aOf.laneStat ((s.driverLanes n.val).headD n.val)) 16 16) ∧
            t.bit (aOf.laneStat ((s.driverLanes n.val).headD n.val)) 6 = (payByte d 5 % 2 == 1)) ∧
        (payByte d 0 = 0x2D → (s.laneState n.val = lnUp ∨ s.laneState n.val = lnTrain) →
          ∃ t, exec (.synReceive n b) s = .next t ∧ (t.lane n.val).drvLock = (payByte d 1 % 2 == 1) ∧
            (t.lane n.val).drvDone = (payByte d 1 / 2 % 2 == 1))) ∧
      (b.header = 2#2 → payByte d 0 = 0xCC → ∀ i, s.sliceAt n.val = some i → s.sliceState i = slIdent → payByte d 3 / 64 = 0 →
        payByte d 1 + payByte d 2 * 256 + payByte d 3 * 65536 < 8 →
        ∃ t, exec (.calReceive n b) s = .next t ∧
          ∀ l, l = { s.slice i with
              chunks := tset (fun _ => 0#32) (s.slice i).chunks (payByte d 1) (BitVec.ofNat 32 (payHalf d 4 + payHalf d 6 * 65536))
              got := tset (fun _ => false) (s.slice i).got (payByte d 1) true } →
            (l.got.length ≠ 8 → t.slice i = l) ∧
            (l.got.length = 8 → s.identityOk i (l.image 32) = true →
              t.sliceState i = slLoading ∧ (t.slice i).imageLen = (imgWord (l.image 32) 3).toNat) ∧
            (l.got.length = 8 → s.identityOk i (l.image 32) = false →
              t.sliceState i = slAbsent ∧ t.f (aOf.lnkSlice2 i) 8 8 = 3)) ∧
      (∀ x ∈ ([(.ackReceive n b, 0x99), (.rbdReceive n b, 0xAA), (.almReceive n b, 0xB4), (.fomReceive n b, 0xD2),
          (.synReceive n b, 0x2D), (.calReceive n b, 0xCC)] : List (Instr × Nat)),
        ((b.header = 1#2 ∨ (b.header = 2#2 ∧ returnOk d = true ∧ payByte d 0 ≠ x.2)) →
          exec x.1 s = .next (s.begin.setLane n.val l')) ∧
        ((b.header = 0#2 ∨ b.header = 3#2 ∨ (b.header = 2#2 ∧ returnOk d = false)) →
          ∃ t, exec x.1 s = .next t ∧ t.f (aOf.laneErr n.val) 24 8 = min (s.f (aOf.laneErr n.val) 24 8 + 1) 255 ∧
            AtMost [.link] [aOf.laneErr n.val] s t))) ∧
    (s.bit (aOf.laneStat n.val) 4 = true → (b.header = 0#2 ∨ b.header = 3#2) → 16 ≤ l'.badHeaders →
      ∃ t, exec (.synReceive n b) s = .next t ∧ t.bit (aOf.laneStat n.val) 4 = false) ∧
    (s.bit (aOf.laneStat n.val) 4 = false → s.laneState n.val ≠ lnOff → l'.run = 64 →
      ∃ t, exec (.synReceive n b) s = .next t ∧ t.bit (aOf.laneStat n.val) 4 = true)

/-- Lane states (R140, R144, R148, R154). Block lock and signal follow the line; an UP or training lane whose lock goes has
failed, into TEST when it was taken; signal starts training in DETECT; a FAILED lane with signal, lock and its driver's lock
trains again; presets are tried in turn and the best kept; a failed training returns to DETECT; a window at its limit raises
event 576 + n once. -/
def Obligations.LaneStates : Prop :=
  ∀ (s : State) (n : Fin 64), s.laneAlive n.val = true →
    (s.laneState n.val ≠ lnOff →
      (∃ t, exec (.blockLockGain n) s = .next t ∧ t.bit (aOf.laneStat n.val) 4 = true) ∧
      (∃ t, exec (.laneSignalDetect n) s = .next t ∧ t.bit (aOf.laneStat n.val) 3 = true ∧
        (s.laneState n.val = lnDetect → (s.lane n.val).holdoff = false → t.laneState n.val = lnTrain)) ∧
      (∃ t, exec (.laneSignalLoss n) s = .next t ∧ t.bit (aOf.laneStat n.val) 3 = false ∧ t.bit (aOf.laneStat n.val) 4 = false)) ∧
    (s.bit (aOf.laneStat n.val) 4 = true →
      ∃ t, exec (.blockLockLoss n) s = .next t ∧ t.bit (aOf.laneStat n.val) 4 = false ∧
        (s.laneState n.val = lnTrain ∨ (s.laneState n.val = lnUp ∧ s.sliceAt n.val = none) →
          t.laneState n.val = if s.bit (aOf.laneCtrl n.val) 3 then lnTest else lnFailed)) ∧
    (s.laneState n.val = lnFailed → s.bit (aOf.laneStat n.val) 3 = true → s.bit (aOf.laneStat n.val) 4 = true →
      s.bit (aOf.laneStat n.val) 5 = true → ∃ t, exec (.laneRecover n) s = .next t ∧ t.laneState n.val = lnTrain) ∧
    (∀ p, s.laneState n.val = lnTrain → (s.lane n.val).trial = some p →
      ∃ t, exec (.presetStep n) s = .next t ∧
        (p < 7 → (t.lane n.val).trial = some (p + 1) ∧ (t.lane n.val).preset = p + 1 ∧ (t.lane n.val).heard = none ∧
          (t.lane n.val).best = (s.lane n.val).bestAfter p) ∧
        (7 ≤ p → ∀ q g, (s.lane n.val).bestAfter p = some (q, g) → (t.lane n.val).preset = q ∧ (t.lane n.val).doneSent = true) ∧
        (7 ≤ p → (s.lane n.val).bestAfter p = none → t.laneState n.val = lnDetect ∧ (t.lane n.val).holdoff = true)) ∧
    (s.laneState n.val = lnTrain →
      ∃ t, exec (.trainTimeout n) s = .next t ∧ t.laneState n.val = lnDetect ∧ (t.lane n.val).holdoff = true ∧
        (t.lane n.val).failedTrain = true) ∧
    ((s.lane n.val).holdoff = true →
      ∃ t, exec (.detectHoldoffEnd n) s = .next t ∧ t.lane n.val = { s.lane n.val with holdoff := false }) ∧
    ((s.lane n.val).winId = s.winNow n.val → s.f (aOf.laneThr n.val) 8 16 ≤ (s.lane n.val).winCount →
      (s.lane n.val).winHit = false →
      ∃ t, exec (.errorLimit n) s = .next t ∧ t.lane n.val = { s.lane n.val with winHit := true } ∧
        (s.domOn pdCtrl = true → t.evSet (576 + n.val) = true)) ∧
    (∀ w h, s.bit (aOf.laneEye n.val) 30 = true →
      ∃ t, exec (.eyeScanEnd n w h) s = .next t ∧ t.bit (aOf.laneEye n.val) 30 = false ∧
        t.f (aOf.laneEye n.val) 16 7 = w % 128 ∧ t.f (aOf.laneEye n.val) 0 6 = h % 64)

/-- The link's registers and management (R134, R144, R146, R147, R150 to R153, R156). EN, TAKE and RATE of a lane and EN of the
link take their value and move lanes to OFF, DETECT, TEST or TRAIN; an injection waits and an eye scan starts; DONE clears; the
oldest management block leaves, scrambled, within its driver's credit; a load starts with SEND_CAL while no other runs, and one that times
out is retried once with cause 5, then ABSENT; a query not answered is given up and counted. -/
def Obligations.LinkRegisters : Prop :=
  ∀ (s : State) (n : Fin 64) (flag : Bool) (rate : BitVec 2),
    (s.canAccess (aOf.laneCtrl n.val) = true →
      (∃ t, exec (.laneEnWrite n flag) s = .next t ∧ t.bit (aOf.laneCtrl n.val) 2 = flag ∧
        (flag = false → t.laneState n.val = lnOff) ∧
        (flag = true → s.bit aOf.lnkCtrl 0 = true → s.laneState n.val = lnOff → t.laneState n.val = lnDetect)) ∧
      (∃ t, exec (.laneTakeWrite n flag) s = .next t ∧ t.bit (aOf.laneCtrl n.val) 3 = flag ∧
        (flag = true → s.laneState n.val ≠ lnOff → t.laneState n.val = lnTest) ∧
        (flag = false → s.laneState n.val = lnTest → t.laneState n.val = lnTrain)) ∧
      (∃ t, exec (.laneRateWrite n rate) s = .next t ∧ t.f (aOf.laneCtrl n.val) 0 2 = rate.toNat ∧
        (s.laneState n.val = lnUp → s.f (aOf.laneCtrl n.val) 0 2 ≠ rate.toNat → t.laneState n.val = lnTrain) ∧
        (s.f (aOf.laneCtrl n.val) 0 2 = rate.toNat → t.laneState n.val = s.laneState n.val))) ∧
    (s.canAccess aOf.lnkCtrl = true →
      ∃ t, exec (.linkEnWrite flag) s = .next t ∧ t.bit aOf.lnkCtrl 0 = flag ∧
        ∀ k, k < s.part.lanes → s.laneOn k = true → (flag = false → t.laneState k = lnOff) ∧
          (flag = true → s.bit (aOf.laneCtrl k) 2 = true → s.laneState k = lnOff → t.laneState k = lnDetect)) ∧
    (s.canAccess (aOf.lanePrbs n.val) = true →
      ∃ t, exec (.errorInject n flag) s = .next t ∧ t.lane n.val = { s.lane n.val with inject := some flag } ∧ AtMost [.link] [] s t) ∧
    (s.canAccess (aOf.laneEye n.val) = true →
      ∃ t, exec (.eyeScan n) s = .next t ∧ t.bit (aOf.laneEye n.val) 30 = true ∧ AtMost [] [aOf.laneEye n.val] s t) ∧
    (s.canAccess aOf.lnkCal = true → ∃ t, exec .lnkCalDoneClear s = .next t ∧ t.bit aOf.lnkCal 31 = false) ∧
    (∀ m rest k, s.alive = true → (s.slice n.val).queue = m :: rest → (s.mgmtLanes n.val m).head? = some k →
      (∀ v, m = .cfg 1 v → s.fw.test = none) →
      ((s.slice n.val).sent + 256 - (s.slice n.val).credit % 256) % 256 < (s.slice n.val).mqd →
      ∃ t, exec (.mgmtBlockSend n) s = .next t ∧ (t.slice n.val).queue = rest ∧
        (t.slice n.val).sent = ((s.slice n.val).sent + 1) % 256 ∧
        (∀ a v, m = .cfg a v → t.out = [.block k true (scramble (s.lane k).txHist (cfgBlock a (s.slice n.val).wtag v))])) ∧
    (s.alive = true → s.domOn pdPipe = true →
      (s.sliceState n.val = slLoading → (∀ j, j < 64 → (s.slice j).loading = false) → s.bit aOf.lnkCal 31 = false →
        ∃ t, exec (.calLoadStart n) s = .next t ∧ t.slice n.val =
          { s.slice n.val with loading := true, chunks := [], got := [], queue := (s.slice n.val).queue ++ [.cfg 0 0xA#32] }) ∧
      (s.sliceState n.val = slLoading → (s.slice n.val).loading = true →
        ∃ t, exec (.calLoadTimeout n) s = .next t ∧ (t.slice n.val).loading = false ∧ t.f (aOf.lnkSlice2 n.val) 8 8 = 5 ∧
          ((s.slice n.val).retried = false → t.sliceState n.val = slLoading ∧ (t.slice n.val).retried = true) ∧
          ((s.slice n.val).retried = true → t.sliceState n.val = slAbsent ∧ (t.slice n.val).blocked = true)) ∧
      (∀ q rest, (s.slice n.val).queries = q :: rest →
        ∃ t, exec (.readbackTimeout n) s = .next t ∧ (t.slice n.val).queries = rest ∧
          t.f (aOf.laneErr2 (s.sd n.val).first) 24 8 = min (s.f (aOf.laneErr2 (s.sd n.val).first) 24 8 + 1) 255))

/-! ### The segment port -/

/-- The segment port (R157 to R160, R163 to R166). A frame starts at the end of the one before while EN and the supply
stand, counts F on, or from 0 where EN was set since the frame before, and takes its stamp; with EN cleared the frame completes and
the port goes blank; a slot drives the levels of its place in the frame; EN, VSRC and the VLCD supervision set their bits, a fault blanking the port with event 770. -/
def Obligations.SegmentCommands : Prop :=
  ∀ (s : State) (checks : List OutCheck) (v : BitVec 2),
    (s.segOn = true → (s.segRun = false ∨ 2 * s.segN ≤ s.seg.slot) →
      (s.segEn = true → s.vlcdOk = true → s.seg.fstop = false →
        ∃ t, exec .segmentFrameStart s = .next t ∧ t.segRun = true ∧ t.bit aOf.segStat 1 = false ∧ t.seg.slot = 0 ∧
          t.seg.frame = (if s.seg.restart then 0 else (s.seg.frame + 1) % 15) ∧ t.seg.restart = false ∧
          t.f aOf.segStat 4 4 = t.seg.frame ∧ t.rd aOf.segFrame = s.stampOf false) ∧
      (s.segEn = false → s.segRun = true →
        ∃ t, exec .segmentFrameStart s = .next t ∧ t.segRun = false ∧ t.bit aOf.segStat 1 = true ∧
          t.seg.levels = List.replicate 104 0)) ∧
    (s.segOn = true → s.segRun = true → s.seg.slot < 2 * s.segN → s.bit aOf.segCtrl 6 = false → s.testing 8 = false →
      ∃ t, exec (.segmentSlot checks) s = .next t ∧ t.seg = { s.seg with slot := s.seg.slot + 1, levels := s.slotLevels s.seg.slot } ∧
        t.out = [.levels (s.slotLevels s.seg.slot)]) ∧
    (s.segOn = true → s.segRun = true → s.seg.slot < 2 * s.segN → s.bit aOf.segCtrl 6 = true → s.bit aOf.segCtrl 7 = false →
      ∃ t, exec (.segmentSlot checks) s = .next t ∧ t.seg.slot = s.seg.slot + 1 ∧ t.seg.levels = s.slotLevels s.seg.slot) ∧
    (s.canAccess aOf.segCtrl = true →
      (∃ t, exec .segmentEnable s = .next t ∧ t.segEn = true ∧ t.segRun = s.segRun ∧
        (s.segEn = false → t.seg.restart = true ∧ t.seg.fstop = false ∧ (s.segRun = false → t.seg.frame = 0))) ∧
      (∃ t, exec .segmentDisable s = .next t ∧ t.segEn = false ∧ t.segRun = s.segRun) ∧
      (∃ t, exec (.vsrcWrite v) s = .next t ∧ t.f aOf.segCtrl 4 2 = v.toNat ∧ t.vlcdOk = false ∧ t.segRun = false)) ∧
    (s.segOn = true → s.vlcdOk = true →
      ∃ t, exec .vlcdFault s = .next t ∧ t.vlcdOk = false ∧ t.segRun = false ∧ t.seg.levels = List.replicate 104 0 ∧
        (s.domOn pdCtrl = true → t.evSet 770 = true)) ∧
    (s.segOn = true → s.vlcdOk = false → ∃ t, exec .vlcdOkSet s = .next t ∧ t.vlcdOk = true ∧ AtMost [.seg] [aOf.segStat] s t)

/-! ### gPTP -/

/-- gPTP messages (R177 to R180, R302). A message of another domain is counted and does nothing else; SYNC of the selected
grandmaster is stamped; its FOLLOW_UP gives the offset, which TIME_ADJ takes once the boot is aligned; ANNOUNCE selects the better
source; a peer-delay request is answered with its receipt time t2, and with the stamp t3 of the answer in a follow-up where the queue
of stamps has room; the response to an own request keeps t2 + (t4 − t1), in 1/256 ns, and its follow-up sets the link delay;
SIGNALING is counted; without SYNC the servo is in holdover, its error figure taken from the offsets measured, with any source free
again; the first lock of a boot aligns time and, on a grid, starts the edges. -/
def Obligations.GptpCommands : Prop :=
  ∀ (s : State) (p : Port) (m : GptpMsg), s.gptpOn p = true →
    (m.domain ≠ 0#8 → ∀ c ∈ [Instr.syncMsg p m, .followUp p m, .announce p m, .pdelayReq p m, .pdelayResp p m,
        .pdelayRespFollowUp p m, .signaling p m],
      ∃ t, exec c s = .next t ∧ t.fw.servo = { s.fw.servo with counted := s.fw.servo.counted + 1 } ∧ t.time = s.time ∧ t.out = []) ∧
    (m.domain = 0#8 →
      (m.twoStep = true → s.fw.servo.best.isSome = true → s.fw.servo.port = p → s.fw.servo.gm = m.gm →
        ∃ t, exec (.syncMsg p m) s = .next t ∧ t.fw.servo =
          { s.fw.servo with syncStamp := some (m.seqId, (s.rxStamp p true).2), lastSyncNs := s.extNs }) ∧
      (∀ t0 o, s.fw.servo.syncStamp = some (m.seqId, t0) → s.fw.servo.best.isSome = true → s.fw.servo.port = p → s.fw.servo.gm = m.gm →
        o = roundEven (256 * ((m.originNs : Int) + s.linkDelay p - s.fw.servo.baseNs) - t0) 256 →
        ∃ t, exec (.followUp p m) s = .next t ∧ t.fw.servo.offset = o ∧ t.fw.servo.syncStamp = none ∧
          (s.fw.servo.aligned = true → t.time.adjRem = sx 32 (BitVec.ofInt 32 o).toNat * 2 ^ 48)) ∧
      ((∀ pr g q, s.fw.servo.best = some (pr, g, q) →
          m.priority.toNat < pr.toNat ∨ (m.priority = pr ∧ m.gm.toNat < g.toNat) ∨ (q = p ∧ g = m.gm)) →
        ∃ t, exec (.announce p m) s = .next t ∧ t.fw.servo.best = some (m.priority, m.gm, p) ∧ t.fw.servo.gm = m.gm ∧
          t.fw.servo.port = p) ∧
      (∀ b, b = s.fw.servo.baseNs * 256 →
        ∃ t, exec (.pdelayReq p m) s = .next t ∧ t.out.head? = some (.pdelayResp p m.seqId (b + (s.rxStamp p false).2)) ∧
          ((s.txq p).length < 16 → ∃ e : TxStamp, e.tag = (3#4 : BitVec 4) ++ (m.seqId.setWidth 12 : BitVec 12) ∧
            t.out.drop 1 = [.pdelayRespFollowUp p m.seqId (b + s.txTime e)])) ∧
      (∀ e, ((s.fw.servo.stamps.filter (fun e => decide (e.1 = p))).map (·.2) ++ s.txq p).find? (fun e =>
          e.tag == (2#4 : BitVec 4) ++ (m.seqId.setWidth 12 : BitVec 12)) = some e →
        ∃ t, exec (.pdelayResp p m) s = .next t ∧
          t.fw.servo.pdelay.head? = some (p, m.seqId, 256 * (m.originNs : Int) + (s.rxStamp p false).2 - s.txTime e)) ∧
      (∀ x, s.fw.servo.pdelay.find? (fun d => decide (d.1 = p) && d.2.1 == m.seqId) = some (p, m.seqId, x) →
        ∃ t, exec (.pdelayRespFollowUp p m) s = .next t ∧ t.linkDelay p = (roundEven (x - 256 * m.originNs) 512).toNat)) ∧
    (∃ t, exec (.signaling p m) s = .next t ∧ t.fw.servo = { s.fw.servo with counted := s.fw.servo.counted + 1 }) ∧
    (s.fw.servo.best.isSome = true →
      ∃ t, exec .syncReceiptTimeout s = .next t ∧ t.fw.servo.best = none ∧
        (s.servoState = 2 ∨ s.fw.servo.state = 1 → t.fw.servo.state = 3 ∧ t.fw.servo.e0 = rmsOf s.fw.servo.offsets) ∧
        (¬ (s.servoState = 2 ∨ s.fw.servo.state = 1) → t.fw.servo.state = s.fw.servo.state)) ∧
    (∀ o, s.fw.servo.aligned = false → s.fw.servo.state ≠ 0 →
      ∃ t, exec (.gridAlign o) s = .next t ∧ t.fw.servo.aligned = true ∧ t.fw.servo.state = 2 ∧
        (s.fw.items.grid = none → t.fw.servo.baseNs = s.nowExt + o - s.extNs ∧ t.time = s.time) ∧
        (s.fw.items.grid.isSome = true → t.time.running = true))

/-! ### The Crucible and the Tundish -/

/-- The Crucible window and its scrub (R188, R194 to R196). A read answers the aligned word, an open value where the runner lists stand
(assumption 63), and changes no byte; a write
stores the word's four bytes, least significant first, at the aligned offset and no other byte; an uncorrectable word meets a
bus error, is recorded in CRU_UE and raises event 320 + its bank; beyond the memory and with PD_CRU off the access fails. The
scrub goes on over the window in ascending order, keeping what it corrected; a pass ends with its counts and starts anew; a column
fill and a row copy end in their repair entry. -/
def Obligations.CrucibleCommands : Prop :=
  ∀ (s : State) (m : Master) (off : Nat) (v : Word) (wr : Option Word) (ecc : EccResult) (bad : Bool), s.alive = true →
    (off < s.part.cruSize → s.domOn pdCru = true →
      (ecc ≠ .uncorrectable → off / 8 ∉ s.cru.poison →
        (∃ t, exec (.crucibleWindowAccess m off none ecc bad) s = .next t ∧
          t.out = [.data (if s.part.runnerWord (off / 4 * 4) then Config.measured s.free else s.cruWord (off / 4 * 4))] ∧
          ∀ a, t.cruByte a = s.cruByte a) ∧
        (∃ t, exec (.crucibleWindowAccess m off (some v) ecc bad) s = .next t ∧ t.cruBytes (off / 4 * 4) 4 = leBytes v ∧
          ∀ a, (a < off / 4 * 4 ∨ off / 4 * 4 + 4 ≤ a) → t.cruByte a = s.cruByte a)) ∧
      ((ecc = .uncorrectable ∨ off / 8 ∈ s.cru.poison) →
        ∃ t, exec (.crucibleWindowAccess m off wr ecc bad) s = .next t ∧ t.out.head? = some .busError ∧ off / 8 ∈ t.cru.poison ∧
          t.f aOf.cruUe 0 25 = off % 2 ^ 25 ∧ t.f aOf.cruUe 27 5 = min (s.f aOf.cruUe 27 5 + 1) 31 ∧
          (∀ a, t.cruByte a = s.cruByte a) ∧ (s.domOn pdCtrl = true → t.evSet (320 + s.bankOf off) = true))) ∧
    (s.part.cruSize ≤ off → exec (.crucibleWindowAccess m off wr ecc bad) s = .next (s.begin.emit .busError)) ∧
    (off < s.part.cruSize → s.domOn pdCru = false →
      exec (.crucibleWindowAccess m off wr ecc bad) s = .next (s.begin.emit .domainOff)) ∧
    (s.domOn pdCru = true →
      (∀ found, s.scrubs = true → off < s.part.cruSize → s.cru.scrubAt ≤ off →
        ∃ t, exec (.scrubRead off found) s = .next t ∧ t.cru.scrubAt = off / 8 * 8 + 8 ∧
          (∀ b, found = .corrected b → off / 8 ∉ s.cru.poison → (off / 8, b) ∈ t.cru.corrected) ∧
          (found = .uncorrectable → off / 8 ∈ t.cru.poison)) ∧
      (s.scrubs = true →
        ∃ t, exec .scrubPassEnd s = .next t ∧ t.cru.corrected = [] ∧ t.cru.scrubAt = 0 ∧
          t.f aOf.fetScrub 16 16 = (s.f aOf.fetScrub 16 16 + 1) % 65536 ∧
          t.f aOf.fetScrub 0 16 = min (s.cru.corrected.map (·.1)).dedup.length 65535) ∧
      (∀ ph pos e faults, s.cru.fillRun = some (ph, pos, e) →
        ∃ t, exec (.columnFillEnd faults) s = .next t ∧ (s.cru.fillQ = [] → t.cru.fillRun = none) ∧
          t.repair ph e = BitVec.ofNat 32 (2 ^ 15 + pos)) ∧
      (∀ ph row e faults, s.cru.rowRun = some (ph, row, e) →
        ∃ t, exec (.rowCopyEnd faults) s = .next t ∧ (s.cru.rowQ = [] → t.cru.rowRun = none) ∧
          t.repair ph e = BitVec.ofNat 32 (2 ^ 15 + row) ∧ (s.domOn pdCtrl = true → t.evSet 460 = true)))

/-- Bank retirement (R197 to R199). A retirement copies the bank to the lowest spare, with event 456, or finds none, with NOSPARE
and event 459; it queues in ascending order where others wait, and the first in the queue starts once none runs; at the end of the
copy a spare with an error of its own is OUT, with its event, and the copy does not end on it; else the bank map names the spare,
now ACTIVE, and the March of the old bank starts with event 457; it ends with the old bank RETIRED, or OUT with event 458. -/
def Obligations.RetirementCommands : Prop :=
  ∀ (s : State) (l bad : Nat) (pass : Bool) (r : Retire),
    (s.canAccess aOf.fetRet = true → s.cru.retire = none → l < s.part.banks → s.cru.retireQ ≠ [] →
      ∃ t, exec (.bankRetire l bad) s = .next t ∧ t.cru.retire = none ∧ t.cru.retireQ = queueBank l s.cru.retireQ) ∧
    (s.canAccess aOf.fetRet = true → s.cru.retire = none → l < s.part.banks → s.cru.retireQ = [] →
      (s.spareBank = none → ∃ t, exec (.bankRetire l bad) s = .next t ∧ t.cru.retire = none ∧ t.bit aOf.fetRet 28 = true ∧
        t.f aOf.fetRet 29 2 = 0 ∧ (s.domOn pdCtrl = true → t.evSet 459 = true)) ∧
      (∀ b, s.spareBank = some b →
        (∃ t, exec (.bankRetire l 0) s = .next t ∧
          t.cru.retire = some { bank := l, spare := b, old := s.physOf l, march := false } ∧ t.f aOf.fetRet 29 2 = 1 ∧
          t.f aOf.fetRet 16 7 = l ∧ (s.domOn pdCtrl = true → t.evSet 456 = true)) ∧
        (∃ t, exec (.bankRetire l bad) s = .next t ∧ (t.cru.retire.isSome = true ∨ t.bit aOf.fetRet 28 = true) ∧
          (0 < bad → t.pstate b = 3) ∧ (s.domOn pdCtrl = true → t.evSet 456 = true)))) ∧
    (∀ q b, s.cruOn = true → s.cru.retire = none → s.cru.retireQ = l :: q → s.spareBank = some b →
      ∃ t, exec (.retirementQueuedStart 0) s = .next t ∧ t.cru.retireQ = q ∧
        t.cru.retire = some { bank := l, spare := b, old := s.physOf l, march := false }) ∧
    (s.cruOn = true → s.cru.retire = some r → r.bank < 128 → r.spare < 136 → r.old < 136 →
      (∀ faults, r.march = false →
        (∃ t, exec (.retirementCopyEnd false faults) s = .next t ∧ t.physOf r.bank = r.spare ∧ t.pstate r.spare = 1 ∧
          t.cru.retire = some { r with march := true } ∧ t.f aOf.fetRet 29 2 = 2 ∧ (s.domOn pdCtrl = true → t.evSet 457 = true)) ∧
        (∀ b, s.spareBank = some b →
          ∃ t, exec (.retirementCopyEnd true faults) s = .next t ∧ t.pstate b = 3 ∧
            (∀ q, t.cru.retire = some q → q.bank = r.bank ∧ q.march = false ∧ q.spare ≠ b) ∧
            (s.domOn pdCtrl = true → t.evSet (448 + (b - 128)) = true))) ∧
      (r.march = true → ∃ t, exec (.retirementMarchEnd pass) s = .next t ∧ t.pstate r.old = (if pass then 2 else 3) ∧
        t.cru.retire = none ∧ t.f aOf.fetRet 29 2 = 0 ∧ (pass = false → s.domOn pdCtrl = true → t.evSet 458 = true)))

/-- The Tundish (R201 to R207). A master's region decides each request: a read answers the word, a write and the alias writes
store it, set bits or clear bits in it; a request no region allows meets a bus error, is recorded in TUN_VIOL with event 897, and
stores nothing; an uncorrectable word meets a bus error with event 896. Reading a lock takes it if it is free, a write of the
owner's number frees it, also as requests of a batch. A March run starts, is refused, marks each block good or bad and ends. A
preserving run borrows its first block and, block by block, changes no word that masters read: a block that passed is copied back,
and one that failed stays in the borrow buffer, all its words valid, for good (R207). A destructive run leaves the second background
0 in each block that passed (R206). -/
def Obligations.TundishCommands : Prop :=
  ∀ (s : State) (r : TunReq) (m : Master) (n : Fin 64) (v : Word) (first last : Nat) (pass : Bool) (k : March),
    (s.alive = true → s.domOn pdCtrl = true → r.ecc ≠ .uncorrectable → r.op ≠ .lockRead → (∀ x, r.op ≠ .lockWrite x) →
      (s.tunAllowed r.master.num r.word (r.op != .read) = true →
        ∃ t, exec (.tundishBatch [r]) s = .next t ∧
          t.tunWord r.word = (match r.op with
            | .read => s.tunWord r.word
            | .write w => w
            | .setBits w => s.tunWord r.word ||| w
            | .clearBits w => s.tunWord r.word &&& ~~~w
            | .lockRead | .lockWrite _ => s.tunWord r.word) ∧
          (r.op = .read → t.out = [.data (s.tunWord r.word)]) ∧ ∀ w, w ≠ r.word → t.tunWord w = s.tunWord w) ∧
      (s.tunAllowed r.master.num r.word (r.op != .read) = false →
        ∃ t, exec (.tundishBatch [r]) s = .next t ∧ .busError ∈ t.out ∧ t.tun = s.tun ∧
          t.rd aOf.tunViol = BitVec.ofNat 32 (2 ^ 31 + r.master.num * 2 ^ 28 + r.word) ∧ t.evSet 897 = true)) ∧
    (s.alive = true → s.domOn pdCtrl = true → r.op = .read → r.ecc = .uncorrectable →
      s.tunAllowed r.master.num r.word false = true →
      ∃ t, exec (.tundishBatch [r]) s = .next t ∧ t.out = [.busError] ∧ t.tun = s.tun ∧ t.evSet 896 = true) ∧
    (s.alive = true → s.domOn pdCtrl = true →
      (r.op = .lockRead → ∃ t, exec (.tundishBatch [r]) s = .next t ∧ t.out = [.data (BitVec.ofNat 32 (s.lockOf r.word))] ∧
        t.lockOf r.word = (if s.lockOf r.word = 0 then r.master.num + 1 else s.lockOf r.word) ∧
        (∀ j, j ≠ r.word → t.lockOf j = s.lockOf j) ∧ AtMost [.tun] [] s t) ∧
      (r.op = .lockWrite v → ∃ t, exec (.tundishBatch [r]) s = .next t ∧
        t.lockOf r.word = (if s.lockOf r.word = v.toNat % 8 + 1 then 0 else s.lockOf r.word) ∧
        (∀ j, j ≠ r.word → t.lockOf j = s.lockOf j) ∧ AtMost [.tun] [] s t)) ∧
    (s.canAccess (aOf.tunLock n.val) = true →
      (∃ t, exec (.tunLockRead m n) s = .next t ∧ t.out = [.data (BitVec.ofNat 32 (s.lockOf n.val))] ∧
        t.lockOf n.val = (if s.lockOf n.val = 0 then m.num + 1 else s.lockOf n.val) ∧
        (∀ j, j ≠ n.val → t.lockOf j = s.lockOf j) ∧ AtMost [.tun] [] s t) ∧
      (∃ t, exec (.tunLockWrite m n v) s = .next t ∧
        t.lockOf n.val = (if s.lockOf n.val = v.toNat % 8 + 1 then 0 else s.lockOf n.val) ∧
        (∀ j, j ≠ n.val → t.lockOf j = s.lockOf j) ∧ AtMost [.tun] [] s t)) ∧
    (s.canAccess aOf.tunMarch = true → s.tun.march = none →
      (s.bit aOf.tunMarch 27 = false → ∃ t, exec (.marchRun first last true) s = .next t ∧
        t.tun.march = some { block := first, last := last, preserving := true } ∧ t.bit aOf.tunMarch 30 = true ∧
        t.bit aOf.tunMarch 29 = true ∧ t.bit aOf.tunMarch 26 = false ∧
        (first ≤ last → t.tun.borrow = some ⟨first, [], false⟩)) ∧
      ((∀ b, b < 128 → first ≤ b → b ≤ last → s.blockBit (aOf.tunFree 0) b = true) →
        ∃ t, exec (.marchRun first last false) s = .next t ∧
        t.tun.march = some { block := first, last := last, preserving := false } ∧ t.bit aOf.tunMarch 30 = true ∧
        t.bit aOf.tunMarch 29 = false) ∧
      ((∃ b, b < 128 ∧ first ≤ b ∧ b ≤ last ∧ s.blockBit (aOf.tunFree 0) b = false) →
        ∃ t, exec (.marchRun first last false) s = .next t ∧ t.tun.march = none ∧ t.bit aOf.tunMarch 26 = true)) ∧
    (s.alive = true → s.domOn pdCtrl = true → s.tun.march = some k →
      (k.block ≤ k.last → k.block < 128 → ∃ t, exec (.marchBlockDone pass) s = .next t ∧
        t.blockBit (aOf.tunBad 0) k.block = (!pass) ∧
        (pass = true → t.tun.march = some { k with block := k.block + 1 }) ∧
        (k.preserving = true → ∀ w, t.tunWord w = s.tunWord w) ∧
        (pass = true → k.preserving = true →
          t.tun.borrow = if k.block < k.last then some ⟨k.block + 1, [], false⟩ else none) ∧
        (pass = true → k.preserving = false → ∀ i, i < 1024 → t.tunRaw (k.block * 1024 + i) = marchWord i) ∧
        (pass = false → t.bit aOf.tunMarch 28 = true ∧ t.evSet 898 = true) ∧
        (pass = false → k.preserving = true → t.bit aOf.tunMarch 27 = true ∧ t.tun.march = some { k with block := k.last + 1 } ∧
          ∀ b, s.tun.borrow = some b → ∃ b', t.tun.borrow = some b' ∧ b'.block = b.block ∧ b'.kept = true ∧
            ∀ i, i < 1024 → b'.word i = some (s.tunWord (b.block * 1024 + i)))) ∧
      (k.last < k.block → ∃ t, exec .marchEnd s = .next t ∧ t.tun.march = none ∧ t.bit aOf.tunMarch 30 = false ∧ t.evSet 899 = true))

/-! ### Processors and mailboxes -/

/-- The control processors (R212 to R219). The Boot ROM of the active core ends in an image that passed, STAGE 4, or in recovery,
STAGE 5; that of the standby core in the image of the slot it was given. Firmware starts on the active core, or on the standby
core, which is then ready. A swap is asked for by the active core and moves ACTIVE with event 3; a handover that times out is
abandoned with event 4; a watchdog is kicked, and when it expires the role moves or the core reboots; the takeover moves the role
with event 2, or reboots the core in place where no standby core is ready any more; fuses are blown as far as the writer's image allows. -/
def Obligations.ProcessorCommands : Prop :=
  ∀ (s : State) (c : Core) (m : Master) (w : BitVec 8) (target : Nat) (errs : List Nat),
    (s.inRom c = true →
      (c = s.active → ∃ t, exec (.bootRomRun c errs) s = .next t ∧
        ((∃ i, t.core c = .running i ∧ t.f aOf.sysBoot 0 4 = 4 ∧ t.bit (aOf.sysWdt c.idx) 23 = true) ∨
          (t.core c = .recovery ∧ t.f aOf.sysBoot 0 4 = 5))) ∧
      (c ≠ s.active → s.fw.started = true → s.slotCode s.cpu.bootSlot (errs.contains s.cpu.bootSlot) = 0 →
        ∃ t i, exec (.bootRomRun c errs) s = .next t ∧ t.core c = .running i ∧ i.slot = s.cpu.bootSlot)) ∧
    (s.canEnter c = true → ∃ t, exec (.firmwareStart c) s = .next t ∧ (c = s.active → t.fw.started = true) ∧
      (c ≠ s.active → t.bit aOf.sysRole 4 = true ∧ (s.cpu.handover.isSome = true → t.bit aOf.sysRole 9 = true))) ∧
    (s.canAccess aOf.sysRole = true → s.bit aOf.sysRole 4 = true →
      ∃ t, exec (.roleSwap s.active.master) s = .next t ∧ t.bit aOf.sysRole 9 = true ∧ AtMost [] [aOf.sysRole] s t) ∧
    (s.alive = true → s.domOn pdCtrl = true →
      (s.bit aOf.sysRole 9 = true → s.cpu.takeover = false →
        ∃ t, exec .swapApply s = .next t ∧ t.active = s.active.other ∧ t.bit aOf.sysRole 9 = false ∧ t.evSet 3 = true ∧
          (s.cpu.handover.isSome = true → t.cpu.handover = none ∧ t.core s.active = .rom)) ∧
      (s.cpu.handover.isSome = true → s.bit aOf.sysRole 4 = false →
        ∃ t, exec .handoverTimeout s = .next t ∧ t.cpu.handover = none ∧ t.core s.active.other = .rom ∧ t.evSet 4 = true) ∧
      (s.bit (aOf.sysWdt c.idx) 23 = true →
        ∃ t, exec (.watchdogExpire c) s = .next t ∧ t.bit (aOf.sysWdt c.idx) 22 = true ∧ t.evSet c.idx = true ∧
          (c = s.active → s.bit aOf.sysRole 4 = true → t.cpu.takeover = true) ∧
          (c = s.active → s.bit aOf.sysRole 4 = false → t.core c = .rom ∧ t.fw.started = false ∧ t.evSet 2 = true) ∧
          (c ≠ s.active → t.core c = .rom)) ∧
      (s.cpu.takeover = true → s.bit aOf.sysRole 4 = true →
        ∃ t, exec .takeover s = .next t ∧ t.active = s.active.other ∧ t.cpu.takeover = false ∧ t.cpu.handover = none ∧
          t.fw.requests = [] ∧ t.evSet 2 = true) ∧
      (s.cpu.takeover = true → s.bit aOf.sysRole 4 = false →
        ∃ t, exec .takeover s = .next t ∧ t.active = s.active ∧ t.cpu.takeover = false ∧ t.core s.active = .rom ∧
          t.fw.started = false ∧ t.evSet 2 = true)) ∧
    (s.canAccess (aOf.sysWdt c.idx) = true →
      (∃ t, exec (.watchdogKick c 0x5A#8) s = .next t ∧
        (match c with | .cp0 => t.cpu.kick0 | .cp1 => t.cpu.kick1) = s.extNs ∧ AtMost [.cpu] [] s t) ∧
      (w ≠ 0x5A#8 → exec (.watchdogKick c w) s = .next s.begin)) ∧
    (s.canAccess aOf.secArb = true →
      (coreOfMaster m = none ∨ target ≤ s.fuses.arb ∨ 32 < target ∨ (∀ c, coreOfMaster m = some c → (s.imageOn c).arbver < target) →
        ∃ t, exec (.arbTargetWrite m target) s = .next t ∧ t.fuses = s.fuses) ∧
      (coreOfMaster m = some c → s.fuses.arb < target → target ≤ 32 → target ≤ (s.imageOn c).arbver →
        ∃ t, exec (.arbTargetWrite m target) s = .next t ∧
          t.fuses = { s.fuses with arb := if Config.fuseBlows s.free then target else s.fuses.arb }))

/-- The mailboxes (R22, R220, R222, R223, R235). The writer of a FIFO with room posts a word with its stamp, on a full one it meets
event 904 and a bus error or BUSY; its reader takes the oldest visible word, and from an empty one 0 with BUSY or a bus error;
another core meets a bus error. A word of HMB in that the active core reads while firmware runs joins the words before it; the one
that makes a message whole hands it to firmware. A new host generation is kept. -/
def Obligations.MailboxCommands : Prop :=
  ∀ (s : State) (d : Fin 4) (c : Core) (v : Word), s.alive = true →
    (s.domOn pdCtrl = true →
      (s.mbxWriter d.val ≠ some c → exec (.mailboxPost (.core c) d v) s = .next (s.begin.emit .busError)) ∧
      (s.mbxReader d.val ≠ some c → exec (.mailboxPop (.core c) d) s = .next (s.begin.emit .busError)) ∧
      (s.mbxWriter d.val = some c →
        ∃ t, exec (.mailboxPost (.core c) d v) s = .next t ∧
          ((s.fifo d.val).free ≠ 0 → t.fifo d.val = (s.fifo d.val).push (s.stampOf false) v ∧ t.out = []) ∧
          ((s.fifo d.val).free = 0 → t.mbx = s.mbx ∧ t.out = [.busError] ∧ t.evSet 904 = true)) ∧
      (s.mbxReader d.val = some c →
        ∃ t, exec (.mailboxPop (.core c) d) s = .next t ∧
          ((s.fifo d.val).visible = 0 → t.mbx = s.mbx ∧ t.out = [.data 0#32, .busError]) ∧
          ((s.fifo d.val).visible ≠ 0 → let v := (s.fifo d.val).words.headD 0#32
            let popped := (s.begin.popWord d.val).emit (.data v)
            popped.fifo d.val = ⟨(s.fifo d.val).words.drop 1, (s.fifo d.val).stamps.drop 1, (s.fifo d.val).visible - 1⟩ ∧
            (d.val ≠ 0 ∨ (s.fw.started = false ∧ s.inRecovery = false) → t = popped) ∧
            (d.val = 0 → s.fw.started = true ∨ s.inRecovery = true → ∀ h r, s.fw.hmbIn ++ [v] = h :: r →
              (r.length + 1 ≠ msgLen h → t = { popped with fw := { s.fw with hmbIn := h :: r } }) ∧
              (r.length + 1 = msgLen h → t = State.receiveRaw { popped with fw := { s.fw with hmbIn := [] } }
                ((s.fifo 0).stamps.headD 0#32) (rawOf h r)))))) ∧
    (∃ t b, exec (.mailboxPost .host 0 v) s = .next t ∧ t.out = [.spi b 0#32] ∧
      ((s.fifo 0).free ≠ 0 → t.fifo 0 = (s.fifo 0).push (s.stampOf false) v ∧ b % 16 = 0) ∧
      ((s.fifo 0).free = 0 → t.mbx = s.mbx ∧ b % 16 = 8)) ∧
    (∃ t b, exec (.mailboxPop .host 1) s = .next t ∧
      ((s.fifo 1).visible = 0 → t.mbx = s.mbx ∧ t.out = [.spi b 0#32] ∧ b % 16 = 1) ∧
      ((s.fifo 1).visible ≠ 0 → t.out.head? = some (.spi b ((s.fifo 1).words.headD 0#32)) ∧ b % 16 = 0 ∧
        (s.fw.outbox = [] → s.fw.hibernate = false →
          t.fifo 1 = ⟨(s.fifo 1).words.drop 1, (s.fifo 1).stamps.drop 1, (s.fifo 1).visible - 1⟩))) ∧
    (∃ t b, exec (.hostGenerationWrite v) s = .next t ∧ t.gen 0 = v.toNat % 16 ∧ t.out.getLast? = some (.spi b 0#32) ∧ b % 16 = 0)

/-- Doorbells and events (R227, R229, R230, R232, R233). Bits 1 to 31 of a set are set and cleared, by the host of the active
core's set and of its own; the heartbeat sets host bit 31; a status frame answers the status byte, an unknown command
INVALID with event 906, and a frame that CS_N ends early nothing; firmware sets a source of group 15 and no other; an enable takes its value and rings the doorbell of every source whose status it finds set. -/
def Obligations.DoorbellsAndEvents : Prop :=
  ∀ (s : State) (n : Fin 4) (bits v : Word) (src : Nat) (i : Fin 32), s.alive = true →
    (∃ t, exec (.doorbellSet .internal n bits) s = .next t ∧ t.dbBits n.val = s.dbBits n.val ||| (bits &&& 0xFFFFFFFE#32) ∧
      AtMost [] [aOf.mbxDbstat n.val] s t) ∧
    (∃ t b, exec (.doorbellSet .host 1 bits) s = .next t ∧ t.dbBits 1 = s.dbBits 1 ||| (bits &&& 0xFFFFFFFE#32) ∧
      t.out = [.spi b 0#32] ∧ b % 16 = 0 ∧ AtMost [] [aOf.mbxDbstat 1] s t) ∧
    (∃ t, exec (.doorbellClear .internal n bits) s = .next t ∧ t.dbBits n.val = s.dbBits n.val &&& ~~~(bits &&& 0xFFFFFFFE#32) ∧
      AtMost [] [aOf.mbxDbstat n.val] s t) ∧
    (∃ t b, exec (.doorbellClear .host 0 bits) s = .next t ∧ t.dbBits 0 = s.dbBits 0 &&& ~~~(bits &&& 0xFFFFFFFE#32) ∧
      t.out = [.spi b 0#32] ∧ b % 16 = 0 ∧ AtMost [] [aOf.mbxDbstat 0] s t) ∧
    (s.fwRuns = true → ∃ t, exec .heartbeat s = .next t ∧ t.dbBits 0 = s.dbBits 0 ||| 0x80000000#32 ∧ AtMost [] [aOf.mbxDbstat 0] s t) ∧
    (exec (.spiStatus .status) s = .next (s.begin.emit (.spi (s.spiByte false 0) 0#32))) ∧
    (∀ x, ∃ t b, exec (.spiStatus (.unknown x)) s = .next t ∧ t.out = [.spi b 0#32] ∧ b % 16 = 2 ∧ t.mbx = s.mbx ∧
      (s.domOn pdCtrl = true → t.evSet 906 = true)) ∧
    (exec (.spiStatus .cut) s = .next s.begin) ∧
    (s.canAccess aOf.evtSwset = true →
      (src / 64 = 15 → ∃ t, exec (.eventSoftwareSet src) s = .next t ∧ t.evSet src = true) ∧
      (src / 64 ≠ 15 → exec (.eventSoftwareSet src) s = .next s.begin)) ∧
    (s.canAccess (aOf.evtEn i.val) = true →
      ∃ t, exec (.eventEnableWrite i v) s = .next t ∧ t.rd (aOf.evtEn i.val) = v ∧
        AtMost [] [aOf.evtEn i.val, aOf.mbxDbstat 0, aOf.mbxDbstat 1, aOf.mbxDbstat 2, aOf.mbxDbstat 3] s t ∧
        ∀ k, k < 32 → bitOf v k = true → s.evEn (32 * i.val + k) = false → s.evSet (32 * i.val + k) = true →
          bitOf (t.dbBits (s.routeOf (32 * i.val + k) / 64))
            (if s.routeOf (32 * i.val + k) % 32 = 0 then 1 else s.routeOf (32 * i.val + k) % 32) = true)

/-- The debug window (R31, R231). In PRODUCTION every access is DENIED. Otherwise a READ whose access completes within the dummy
clocks returns its result, FAULT for a bus error; another starts its access with BUSY, goes on with those started before it, and
takes the result when it comes back to it; a WRITE is posted, with BUSY while one waits; the access completes as the bus answers,
a failed write showing in PWERR, then the oldest read without a result; DBG_BASE keeps its upper 12 bits. -/
def Obligations.DebugWindow : Prop :=
  ∀ (s : State) (a : Nat) (v : Word) (inTime : Bool), s.alive = true →
    (s.fuses.lifecycle = .production → inDebug a = true → a % 4 = 0 →
      ∀ c ∈ [Instr.debugWindowRead a inTime, .debugWindowWrite a v, .dbgBaseWrite v],
        ∃ t b, exec c s = .next t ∧ t.out = [.spi b 0#32] ∧ b % 16 = 4 ∧ t.cpu = s.cpu) ∧
    (s.fuses.lifecycle ≠ .production → inDebug a = true → a % 4 = 0 →
      (s.dbgFound (s.dbgAddr a) = none →
        (∃ t b, exec (.debugWindowRead a false) s = .next t ∧ t.out = [.spi b 0#32] ∧ b % 16 = 1 ∧
          t.cpu = { s.cpu with dbgRead := s.dbgRest (s.dbgAddr a) ++ [⟨s.dbgAddr a, s.extNs, none⟩] }) ∧
        (∃ t b, exec (.debugWindowRead a true) s = .next t ∧ ∀ u, u = State.busRead { s.begin with cpu := { s.cpu with dbgRead := s.dbgRest (s.dbgAddr a) } } .spi (s.dbgAddr a) →
          (∀ x, u.busData = some x → t.out = [.spi b x] ∧ b % 16 = 0) ∧
          (u.busData = none → t.out = [.spi b 0#32] ∧ b % 16 = 10))) ∧
      (∀ r, s.dbgFound (s.dbgAddr a) = some r → ∃ t b, exec (.debugWindowRead a inTime) s = .next t ∧
        (r.result = none → t.cpu = s.cpu ∧ t.out = [.spi b 0#32] ∧ b % 16 = 1) ∧
        (r.result = some none → t.cpu = { s.cpu with dbgRead := s.dbgRest (s.dbgAddr a) } ∧ t.out = [.spi b 0#32] ∧ b % 16 = 10) ∧
        (∀ x, r.result = some (some x) →
          t.cpu = { s.cpu with dbgRead := s.dbgRest (s.dbgAddr a) } ∧ t.out = [.spi b x] ∧ b % 16 = 0)) ∧
      (s.cpu.dbgWrite = none →
        ∃ t b, exec (.debugWindowWrite a v) s = .next t ∧ t.cpu = { s.cpu with dbgWrite := some (s.dbgAddr a, v) } ∧
          t.out = [.spi b 0#32] ∧ b % 16 = 0) ∧
      (s.cpu.dbgWrite.isSome = true →
        ∃ t b, exec (.debugWindowWrite a v) s = .next t ∧ t.cpu = s.cpu ∧ t.out = [.spi b 0#32] ∧ b % 16 = 1)) ∧
    (s.fuses.lifecycle ≠ .production →
      ∃ t b, exec (.dbgBaseWrite v) s = .next t ∧ t.cpu = { s.cpu with dbgBase := v &&& 0xFFF00000#32 } ∧
        t.out = [.spi b 0#32] ∧ b % 16 = 0) ∧
    (∀ x w, s.cpu.dbgWrite = some (x, w) →
      ∃ t, exec .debugAccessComplete s = .next t ∧ t.cpu.dbgWrite = none ∧
        t.cpu.pwerr = (s.begin.busWrite .spi x w).busFailed ∧ t.regs = (s.begin.busWrite .spi x w).regs ∧
        t.cru = (s.begin.busWrite .spi x w).cru ∧ t.tun = (s.begin.busWrite .spi x w).tun) ∧
    (∀ before r rest, s.cpu.dbgWrite = none → s.cpu.dbgRead = before ++ r :: rest → (∀ e ∈ before, e.result ≠ none) →
      r.result = none → ∃ t, exec .debugAccessComplete s = .next t ∧ t.out = [] ∧
        t.cpu.dbgRead = before ++ { r with result := some (s.begin.busRead .spi r.addr).busData } :: rest)

/-! ### Messages -/

/-- Requests that read (R237, R238, R241, R242, R253 to R255, R257, R258, R262, R287). Each is answered with the words the manual
gives it: IDENTIFY, GET_STATUS, which restarts the count of dropped STATUS messages, CONFIG_GET, EVENT_READ, whose bit 4
clears what it read, TIME_STATUS, CAL_READ, NV_READ, with event 832 for a corrected group and FAULT for an uncorrectable one, and
the report of LANE_CTRL. -/
def Obligations.ReadingMessages : Prop :=
  ∀ (s : State) (q : Msg) (ws : List Word) (k : Nat) (faults : List (Nat × EccResult)),
    (s.admits 0x01#8 q = true → Answers (.identify q) s 0x01#8 q 0 0
      [s.part.sysCap, BitVec.ofNat 32 (3 + s.fuses.lifecycle.code * 256), (s.imageOn s.active).release,
        BitVec.ofNat 32 (s.uniqueId / 2 ^ 32), BitVec.ofNat 32 s.uniqueId, s.rd aOf.mbxGen,
        BitVec.ofNat 32 (s.fw.lamp.code + s.f aOf.sysRole 0 1 * 2 ^ 8 + s.f aOf.sysRole 4 1 * 2 ^ 9), s.rd aOf.sysBoot]
      (fun t => ∀ a, t.rd a = s.rd a)) ∧
    (s.admits 0x02#8 q = true → Answers (.getStatus q) s 0x02#8 q 0 (min s.fw.statusDropped 65535)
      (s.statusWords (if s.domOn pdPipe then s.f aOf.pourResstat 16 12 else 0) 0)
      (fun t => t.fw.statusDropped = 0 ∧ ∀ a, t.rd a = s.rd a)) ∧
    (s.admits 0x11#8 q = true → 2 ≤ q.len → onlyBits (q.w 1) 0xFFFF = true → s.fw.items.words (fld (q.w 1) 0 16) = some ws →
      Answers (.configGet q) s 0x11#8 q 0 0 ws (fun t => ∀ a, t.rd a = s.rd a)) ∧
    (s.admits 0x40#8 q = true → 2 ≤ q.len → onlyBits (q.w 1) 0x3F1F = true → (fld (q.w 1) 0 4 = 12 → s.part.hasSeg = true) →
      let g := fld (q.w 1) 0 4
      let first := fld (q.w 1) 8 6
      Answers (.eventRead q) s 0x40#8 q 0 0
        ([s.rd (aOf.evtStat (2 * g)), s.rd (aOf.evtStat (2 * g + 1)), BitVec.ofNat 32 first] ++
          (((List.range 64).filter (fun i => decide (first ≤ i) && s.evSet (64 * g + i))).take 10).map
            (fun i => s.rd (aOf.evtTime (64 * g + i))))
        (fun t => (bitOf (q.w 1) 4 = true → t.rd (aOf.evtStat (2 * g)) = 0#32 ∧ t.rd (aOf.evtStat (2 * g + 1)) = 0#32) ∧
          (bitOf (q.w 1) 4 = false → ∀ a, t.rd a = s.rd a))) ∧
    (s.admits 0x50#8 q = true → Answers (.timeStatus q) s 0x50#8 q 0 0 s.drawn.timeWords (fun t => ∀ a, t.rd a = s.rd a)) ∧
    (s.admits 0x61#8 q = true → 2 ≤ q.len → onlyBits (q.w 1) 0x1FF = true → fld (q.w 1) 0 8 ≤ 16 →
      s.calEntryOf (bitOf (q.w 1) 8) (if fld (q.w 1) 0 8 = 16 then 16 + s.f aOf.calCtrl 0 1 else fld (q.w 1) 0 8) = some ws →
      Answers (.calRead q) s 0x61#8 q 0 0
        [BitVec.ofNat 32 (fld (q.w 1) 0 8), ws.getD 1 0#32, ws.headD 0#32 &&& 0xFFFF000F#32, ws.getD 2 0#32]
        (fun t => ∀ a, t.rd a = s.rd a)) ∧
    (s.admits 0x70#8 q = true → 3 ≤ q.len → (q.w 1).toNat % 4 = 0 → onlyBits (q.w 2) 0xF = true → 0 < fld (q.w 2) 0 4 →
      fld (q.w 2) 0 4 ≤ 12 → (q.w 1).toNat + 4 * fld (q.w 2) 0 4 ≤ 0x100000 →
      ((∀ i, i < fld (q.w 2) 0 4 → (s.nvMet q faults).nvBad ((q.w 1).toNat + 4 * i) 4 = false) →
        Answers (.nvRead q faults) s 0x70#8 q 0 0
          (q.w 1 :: (List.range (fld (q.w 2) 0 4)).map (fun i => (s.nvMet q faults).nvWord ((q.w 1).toNat + 4 * i)))
          (fun t =>
            ((∀ i, i < fld (q.w 2) 0 4 → ((q.w 1).toNat + 4 * i) / 8 ∉ (s.nvMet q faults).nv.weak) →
              ∀ a, t.rd a = (s.nvMet q faults).rd a) ∧
            (k < fld (q.w 2) 0 4 → ((q.w 1).toNat + 4 * k) / 8 ∈ (s.nvMet q faults).nv.weak → t.evSet 832 = true))) ∧
      (k < fld (q.w 2) 0 4 → (s.nvMet q faults).nvBad ((q.w 1).toNat + 4 * k) 4 = true →
        Answers (.nvRead q faults) s 0x70#8 q 10 0 [] (fun t => t.evSet 833 = true))) ∧
    (s.admits 0xA0#8 (q.sel 8 4 6) = true → 3 ≤ q.len → onlyBits ((q.sel 8 4 6).w 1) 0xF3F = true →
      fld ((q.sel 8 4 6).w 1) 0 6 < s.part.lanes →
      Answers (.laneCtrlReport q) s 0xA0#8 (q.sel 8 4 6) 0 0 (s.laneReport (fld ((q.sel 8 4 6).w 1) 0 6))
        (fun t => ∀ a, t.rd a = s.rd a))

/-- LOG_READ (R259): the index of W1 counts back from the newest record; the reply holds the records held and the index in W2 and
the 32-byte record in W3 to W10; an index at or beyond the records held gives INVALID. -/
def Obligations.LogRead : Prop :=
  ∀ (s : State) (q : Msg), s.admits 0xC0#8 q = true →
    let i := fld (q.w 1) 0 16
    (∀ h : i < s.logNewest.length, 2 ≤ q.len → onlyBits (q.w 1) 0xFFFF = true →
      Answers (.logRead q) s 0xC0#8 q 0 0
        (BitVec.ofNat 32 (i * 65536 + s.logNewest.length) ::
          (List.range 8).map (fun j => s.nvWord (0x40000 + s.logNewest[i] * 32 + 4 * j)))
        (fun t => ∀ a, t.rd a = s.rd a)) ∧
    (s.logNewest.length ≤ i → Answers (.logRead q) s 0xC0#8 q 2 0 [] (fun t => ∀ a, t.rd a = s.rd a))

/-- Requests that configure (R253, R254, R256). CONFIG_SET leaves the item with the value of the request, item 0x0004 outside
OFF being answered after its edge; EVENT_CONFIG sets enable and route of every source of its range; each item of TIME_CONFIG
takes its value. A frame period that finds a Temper step's period waiting gives way to it, with event 71 (R182). -/
def Obligations.ConfiguringMessages : Prop :=
  ∀ (s : State) (q : Msg),
    (s.admits 0x10#8 q = true → let item := fld (q.w 1) 0 16
      s.itemAbsent item q = false → itemLen item ≤ q.len → onlyBits (q.w 1) 0xFFFF = true → s.itemValid item q = true →
      s.itemStarves item q = false → (item = 4 → s.device ≠ 4) →
      let kept : State → Prop := fun t =>
        t.fw.items.words item = some ((List.range (itemLen item - 2)).map (fun i => q.w (2 + i))) ∧
        (item = 6 → t.f aOf.pwrCtrl 2 2 = (q.w 2).toNat) ∧
        (item = 4 → s.fw.lamp ≠ .off →
          (s.bit aOf.timeFctrl 0 && s.time.pendTemper) = false → t.f aOf.timePeriod 0 25 = (q.w 2).toNat) ∧
        (item = 4 → s.fw.lamp ≠ .off →
          (s.bit aOf.timeFctrl 0 && s.time.pendTemper) = true → t.rd aOf.timePeriod = s.rd aOf.timePeriod ∧ t.evSet 71 = true)
      (item = 4 → s.fw.lamp ≠ .off → HoldsFor (.configSet q) s 0x10#8 q .nextEdge kept) ∧
      ((item ≠ 4 ∨ s.fw.lamp = .off) → Answers (.configSet q) s 0x10#8 q 0 0 [] kept)) ∧
    (s.admits 0x41#8 q = true → let first := fld (q.w 1) 0 10
      let last := first + fld (q.w 2) 0 6
      3 ≤ q.len → onlyBits (q.w 1) 0xDF0103FF = true → onlyBits (q.w 2) 0x3F = true → first % 64 + fld (q.w 2) 0 6 < 64 →
      (∀ n, first ≤ n → n ≤ last → s.absentSource n = false) →
      Answers (.eventConfig q) s 0x41#8 q 0 0 [] (fun t => ∀ n, first ≤ n → n ≤ last →
        t.bit (aOf.evtEn (n / 32)) (n % 32) = bitOf (q.w 1) 16 ∧
        t.f (aOf.evtRoute (n / 4)) (n % 4 * 8) 8 = fld (q.w 1) 24 8)) ∧
    (∀ item : Fin 7, s.admits 0x51#8 (q.sel 0 8 item.val) = true → onlyBits ((q.sel 0 8 item.val).w 1) 0xFF = true →
      timeItemLen item.val ≤ q.len → s.timeItemValid item.val q = true →
      ((item.val = 3 ∨ item.val = 4) → bitOf (q.w 2) 0 = true → s.part.hasPort1 = true) →
      (item.val = 5 → s.fw.lamp ≠ .lit ∧ s.fw.lamp ≠ .ingot ∧ s.fw.lamp ≠ .service) →
      Answers (timeItemCommand q item) s 0x51#8 (q.sel 0 8 item.val) 0 0 [] (fun t => TimeItemTaken s t q item))

/-- Requests that store (R213, R214, R217, R249, R257, R258, R260). NV_WRITE leaves its words in the array; NV_SAVE_NOW is
answered with the wear copy in force and its sequence, after the wear save where it asks for one; CAL_RUN starts the object and
waits for its end; a transfer begins, takes the bytes that follow those it holds, and ends in its checks; the erased slot reads
as erased; a transfer that took too long is closed, which its next message is told; FW_COMMIT blows the fuses the running image
asks for; FW_HANDOVER resets the standby core into the staged slot. -/
def Obligations.StoringMessages : Prop :=
  ∀ (s : State) (q : Msg) (x : Xfer) (k : XferKind),
    (s.admits 0x71#8 q = true → 3 ≤ q.len → (q.w 1).toNat % 4 = 0 → s.nvRefuses = false →
      let ws := (q.ws.drop 1).take 13
      s.nvWritable (q.w 1).toNat (4 * ws.length) = true →
      Answers (.nvWrite q) s 0x71#8 q 0 0 [] (fun t => t.nvBytes (q.w 1).toNat (4 * ws.length) = wordsBytes ws)) ∧
    (s.admits 0x72#8 q = true → 2 ≤ q.len → onlyBits (q.w 1) 0xF = true → s.nvRefuses = false → s.saveBarred (q.w 1) = false →
      (bitOf (q.w 1) 0 = false → Answers (.nvSaveNow q) s 0x72#8 q 0 0 s.saveWords
        (fun t => bitOf (q.w 1) 1 = true → t.rd aOf.nvcHseq = s.rd aOf.nvcHseq + 1#32)) ∧
      (bitOf (q.w 1) 0 = true → s.domOn pdCru = true →
        HoldsFor (.nvSaveNow q) s 0x72#8 q (.nvSave (fld (q.w 1) 0 4)) (fun t => t.nv.wear = true))) ∧
    (s.admits 0x60#8 q = true → 2 ≤ q.len → onlyBits (q.w 1) 0x1FF = true → s.cal.calRun = none →
      calObjects (fld (q.w 1) 0 8) ≠ [] →
      HoldsFor (.calRun q) s 0x60#8 q .calEnd (fun t => t.cal.calRun = some (calObjects (fld (q.w 1) 0 8)) ∧
        t.rd aOf.calCmd = BitVec.ofNat 32 (2 ^ 30 + fld (q.w 1) 0 8))) ∧
    (s.admits 0x23#8 (q.sel 0 4 0) = true → onlyBits ((q.sel 0 4 0).w 1) 0xF = true → 4 ≤ q.len → 32 ≤ (q.w 2).toNat →
      (q.w 2).toNat ≤ 66336 → s.otherRoute .ingot q = false →
      ∃ w, Answers (.ingotStoreBegin q) s 0x23#8 (q.sel 0 4 0) 0 0 [w] (fun t => t.fw.ingotXfer =
        some { route := q.route, len := (q.w 2).toNat, crc := q.w 3, bytes := [], erasing := false })) ∧
    (s.admits 0x23#8 (q.sel 0 4 1) = true → onlyBits ((q.sel 0 4 1).w 1) 0xF = true → 4 ≤ q.len → s.fw.ingotXfer = some x →
      x.route = q.route → x.erasing = false → x.bytes.length % 4 = 0 → (q.w 2).toNat = x.bytes.length →
      ∃ w, Answers (.ingotStoreData q) s 0x23#8 (q.sel 0 4 1) 0 0 [w]
        (fun t => t.fw.ingotXfer = some { x with bytes := x.bytes ++ (dataBytes q).take (x.len - x.bytes.length) })) ∧
    (s.admits 0x23#8 (q.sel 0 4 2) = true → onlyBits ((q.sel 0 4 2).w 1) 0xF = true → 2 ≤ q.len →
      (s.fw.ingotXfer = some x → x.route = q.route → x.bytes.length = x.len → crc32c x.bytes = x.crc → ingotOk x.bytes = true →
        s.bpCovers (recHdr 6 (s.recNext 6).1) = false → s.nvRefuses = false →
        (∃ t, exec (.ingotStoreEnd q) s = .next t ∧ t.fw.ingotXfer = none ∧ t.recBytes 6 (s.recNext 6).1 = x.bytes) ∧
        (s.noPourWaits = true → Answers (.ingotStoreEnd q) s 0x23#8 (q.sel 0 4 2) 0 0 [BitVec.ofNat 32 (s.recNext 6).2] (fun _ => True))) ∧
      (s.fw.ingotXfer = some x → x.route = q.route → x.bytes.length = x.len → crc32c x.bytes ≠ x.crc →
        Answers (.ingotStoreEnd q) s 0x23#8 (q.sel 0 4 2) 10 0 [] (fun t => t.fw.ingotXfer = none ∧ t.nv = s.nv))) ∧
    (s.admits 0x80#8 (q.sel 0 4 0) = true → onlyBits ((q.sel 0 4 0).w 1) 0xF = true → 3 ≤ q.len → 260 ≤ (q.w 2).toNat →
      (q.w 2).toNat ≤ 131328 → (q.w 2).toNat % 4 = 0 → s.otherRoute .firmware q = false → s.cpu.handover = none →
      HoldsFor (.fwStageBegin q) s 0x80#8 (q.sel 0 4 0) .erase (fun t => s.idleSlot ∉ t.cpu.stagedOk ∧ t.fw.fwXfer =
        some { route := q.route, len := (q.w 2).toNat, crc := q.w 3, bytes := [], erasing := true })) ∧
    (s.fwRuns = true → s.fw.fwXfer = some x → x.erasing = true →
      ∃ t, exec .slotEraseEnd s = .next t ∧ t.fw.fwXfer = some { x with erasing := false } ∧
        ∀ a, slotBase s.idleSlot ≤ a → a < slotBase s.idleSlot + 0x100000 → tget flashInit t.cpu.flash a = flashInit a) ∧
    (s.admits 0x80#8 (q.sel 0 4 1) = true → onlyBits ((q.sel 0 4 1).w 1) 0xF = true → 4 ≤ q.len → s.fw.fwXfer = some x →
      x.route = q.route → x.erasing = false → x.bytes.length % 4 = 0 → (q.w 2).toNat = x.bytes.length →
      let bs := (dataBytes q).take (x.len - x.bytes.length)
      x.bytes.length + bs.length ≤ 0x100000 →
      ∃ w, Answers (.fwStageData q) s 0x80#8 (q.sel 0 4 1) 0 0 [w]
        (fun t => t.fw.fwXfer = some { x with bytes := x.bytes ++ bs } ∧
          getBytes flashInit t.cpu.flash (slotBase s.idleSlot + x.bytes.length) bs.length = bs)) ∧
    (s.admits 0x80#8 (q.sel 0 4 2) = true → onlyBits ((q.sel 0 4 2).w 1) 0xF = true → 2 ≤ q.len → s.fw.fwXfer = some x →
      x.route = q.route → x.erasing = false → x.bytes.length = x.len →
      (s.slotCode s.idleSlot false = 0 → ∃ w, Answers (.fwStageEnd q) s 0x80#8 (q.sel 0 4 2) 0 0 [w]
        (fun t => t.fw.fwXfer = none ∧ s.idleSlot ∈ t.cpu.stagedOk)) ∧
      (s.slotCode s.idleSlot false ≠ 0 → Answers (.fwStageEnd q) s 0x80#8 (q.sel 0 4 2) 10 (s.slotCode s.idleSlot false) []
        (fun t => t.fw.fwXfer = none ∧ t.cpu = s.cpu))) ∧
    (s.fwRuns = true → s.xfer k = some x → x.erasing = false →
      ∃ t, exec (.transferTimeout k) s = .next t ∧ t.xfer k = none ∧ (k, x.route) ∈ t.fw.xferClosed) ∧
    (s.admits 0x81#8 q = true → 2 ≤ q.len → onlyBits (q.w 1) 1 = true → fld (q.w 1) 0 1 = (s.imageOn s.active).slot →
      s.nvRefuses = false → (s.imageOn s.active).arbver ≤ s.fuses.arb →
      Answers (.fwCommit q) s 0x81#8 q 0 0 [BitVec.ofNat 32 s.fuses.arb] (fun t => t.fuses = s.fuses)) ∧
    (s.admits 0x81#8 q = true → 2 ≤ q.len → onlyBits (q.w 1) 1 = true → fld (q.w 1) 0 1 = (s.imageOn s.active).slot →
      s.nvRefuses = false → s.fuses.arb < (s.imageOn s.active).arbver → (s.imageOn s.active).arbver ≤ 32 →
      ∃ t, exec (.fwCommit q) s = .next t ∧
        (t.fuses.arb = (s.imageOn s.active).arbver ∧ t.evSet 908 = true ∨ t.fuses.arb = s.fuses.arb)) ∧
    (s.admits 0x82#8 q = true → 2 ≤ q.len → onlyBits (q.w 1) 1 = true → fld (q.w 1) 0 1 ∈ s.cpu.stagedOk →
      s.cpu.handover = none →
      HoldsFor (.fwHandover q) s 0x82#8 q .handover (fun t => t.cpu.handover = some (fld (q.w 1) 0 1) ∧
        t.cpu.bootSlot = fld (q.w 1) 0 1 ∧ t.core s.active.other = .rom))

/-- The lamp and the beam (R238, R239, R242, R244 to R247, R250 to R252). LAMP_STATE answers the state it finds, leaves OFF by
voting the domains, fades from LIT, or cuts by an injected layer 15; PATTERN_SELECT, LEVEL_SET and MASK_SET inject a pour and
wait for it, those of the pour stream behind a flush that runs; STREAM_LOSS starts the fade to the Ingot from the moment silence began, with event 960; STATUS takes the results
it sends off the FIFO. -/
def Obligations.LampMessages : Prop :=
  ∀ (s : State) (q : Msg) (l : Lamp) (r : Word × Word),
    (s.admits 0x20#8 q = true → 2 ≤ q.len → onlyBits (q.w 1) 0x30F = true → lampOf (fld (q.w 1) 0 4) = some l →
      s.fw.entering = 0 → s.fw.leaving = none → s.fuses.lifecycle ≠ .returned → (l = .off → s.offHeld = false) →
      (s.fw.lamp = l → s.fw.fade = none → s.fw.cuts = [] →
        Answers (.lampState q) s 0x20#8 q 0 0 [BitVec.ofNat 32 l.code, s.frameNo] (fun t => t.fw.lamp = l)) ∧
      (s.fw.lamp = .off → l ≠ .off → s.fw.fade = none →
        HoldsFor (.lampState q) s 0x20#8 q (.lampEntry l) (fun t => t.fw.leaving = some l ∧ t.bit (aOf.pwrVote pdPipe) 3 = true)) ∧
      (s.fw.lamp = .lit → (l = .dark ∨ l = .ingot) → bitOf (q.w 1) 8 = true →
        HoldsFor (.lampState q) s 0x20#8 q .fadeStep (fun t => t.fw.fade =
          some { up := true, target := l, t0 := s.extNs, a0 := s.opacity15 })) ∧
      (s.fw.lamp = .lit → (l = .dark ∨ l = .ingot ∨ (l = .service ∧ bitOf (q.w 1) 9 = true)) → bitOf (q.w 1) 8 = false →
        s.ingotTargets l = none → r = s.layer15 l 255 → s.feedsNow = true →
        s.injects .layerSet 0 (BitVec.ofNat 32 (15 * 65536)) (BitVec.ofNat 32 65536) true (beBytes r.1 ++ beBytes r.2) = true →
        HoldsFor (.lampState q) s 0x20#8 q (.pour s.nextInject) (fun t => t.fw.cuts = s.fw.cuts ++ [(l, s.nextInject)] ∧
          ∃ p, t.findPour ⟨true, s.nextInject⟩ = some p ∧ p.op = .layerSet ∧ p.payload = beBytes r.1 ++ beBytes r.2)) ∧
      (s.fw.lamp ≠ .off → l = .off → s.domOn pdPipe = true → s.ingotTargets .dark = none → r = s.layer15 .dark 255 →
        s.pour.flushing = true ∨ (s.feedsNow = true ∧
          s.injects .layerSet 0 (BitVec.ofNat 32 (15 * 65536)) (BitVec.ofNat 32 65536) true (beBytes r.1 ++ beBytes r.2) = true) →
        HoldsFor (.lampState q) s 0x20#8 q (.lampEntry .off) (fun t => t.fw.entering = 1 ∧ t.fw.fade = none))) ∧
    (s.admits 0x21#8 q = true → 2 ≤ q.len → onlyBits (q.w 1) 0x1FFFFF7 = true → fld (q.w 1) 4 4 ≠ 15 → fld (q.w 1) 0 3 ≠ 7 →
      fld (q.w 1) 16 4 ≤ 4 → r = selectRecord (q.w 1) → (layerOfWord r.1 r.2).ok = true → s.noLight = false →
      s.fuses.lifecycle ≠ .returned → (s.pattern s.beam.setB (fld (q.w 1) 0 3)).w ≠ 0 →
      (s.pattern s.beam.setB (fld (q.w 1) 0 3)).ok s.part = true →
      (s.feedsNow = true →
        s.injects .layerSet 0 (BitVec.ofNat 32 (fld (q.w 1) 4 4 * 65536)) (BitVec.ofNat 32 65536) true (beBytes r.1 ++ beBytes r.2) = true →
        HoldsFor (.patternSelect q) s 0x21#8 q (.pour s.nextInject) (fun t =>
          ∃ p, t.findPour ⟨true, s.nextInject⟩ = some p ∧ p.op = .layerSet ∧ p.payload = beBytes r.1 ++ beBytes r.2)) ∧
      (s.pour.flushing = true → HoldsFor (.patternSelect q) s 0x21#8 q (.pour s.nextInject) (fun t => t.fw.loads = s.fw.loads ++
        [⟨s.fw.injectId, .layerSet, 0, BitVec.ofNat 32 (fld (q.w 1) 4 4 * 65536), BitVec.ofNat 32 65536, true, beBytes r.1 ++ beBytes r.2⟩]))) ∧
    (s.admits 0x22#8 q = true → 3 ≤ q.len → onlyBits (q.w 2) 0x1FFFF = true → targetWordOk (q.w 1) = true → s.noLight = false →
      let limits := if bitOf (q.w 2) 16 then s.setWord s.beam.setB 0x2A4 else q.w 2 &&& 0xFFFF#32
      (s.feedsNow = true → s.injects .tableWrite 4 0#32 8#32 true (beBytes (q.w 1) ++ beBytes limits) = true →
        HoldsFor (.levelSet q) s 0x22#8 q (.pour s.nextInject) (fun t =>
          ∃ p, t.findPour ⟨true, s.nextInject⟩ = some p ∧ p.op = .tableWrite ∧ p.payload = beBytes (q.w 1) ++ beBytes limits)) ∧
      (s.pour.flushing = true → HoldsFor (.levelSet q) s 0x22#8 q (.pour s.nextInject) (fun t => t.fw.loads = s.fw.loads ++
        [⟨s.fw.injectId, .tableWrite, 4, 0#32, 8#32, true, beBytes (q.w 1) ++ beBytes limits⟩]))) ∧
    (s.admits 0x30#8 q = true → 2 ≤ q.len → onlyBits (q.w 1) 0x1FFFF = true → 0 < fld (q.w 1) 8 8 →
      fld (q.w 1) 0 8 + fld (q.w 1) 8 8 ≤ 256 → s.noLight = false →
      let w2 := BitVec.ofNat 32 (fld (q.w 1) 0 8 * 65536)
      let w3 := BitVec.ofNat 32 (fld (q.w 1) 8 8 * 65536)
      let bytes := ((q.ws.drop 1).take (6 * fld (q.w 1) 8 8)).flatMap beBytes
      (bitOf (q.w 1) 16 = true → s.injects .maskClear 0 w2 w3 false [] = true →
        HoldsFor (.maskSetMessage q) s 0x30#8 q (.maskLine s.nextInject) (fun t =>
          ∃ p, t.findPour ⟨true, s.nextInject⟩ = some p ∧ p.op = .maskClear ∧ p.phase = .armed)) ∧
      (bitOf (q.w 1) 16 = false → fld (q.w 1) 8 8 ≤ 2 → 2 + 6 * fld (q.w 1) 8 8 ≤ q.len →
        s.injects .maskSet 0 w2 w3 false bytes = true → (maskRecords bytes (fld (q.w 1) 8 8)).all maskOk = true →
        HoldsFor (.maskSetMessage q) s 0x30#8 q (.maskLine s.nextInject) (fun t =>
          ∃ p, t.findPour ⟨true, s.nextInject⟩ = some p ∧ p.op = .maskSet ∧ p.phase = .armed ∧ p.payload = bytes))) ∧
    (s.fwRuns = true → s.fw.lamp = .lit → s.fw.entering = 0 → s.fw.fade = none →
      s.silenceOrigin + s.fw.items.streamTmo * 1000000 ≤ s.extNs →
      ∃ t, exec .streamLoss s = .next t ∧ t.evSet 960 = true ∧
        t.fw.fade = some ⟨true, .ingot, s.silenceOrigin + s.fw.items.streamTmo * 1000000, s.opacity15⟩) ∧
    (s.fwRuns = true → s.domOn pdPipe = true → s.statusRoutes ≠ [] →
      ∃ t, exec .statusMsg s = .next t ∧ t.pour.results = [] ∧ t.f aOf.pourResstat 16 12 = 0 ∧
        (∀ p, s.statusRoutes = [.port p] → (s.hostPort p).up = true → (s.hostPort p).inReset = false →
          ((s.pour.results.filter (fun r => !r.inj)).length ≤ 3 →
            ∃ h, t.out = [.statusMsg (.port p) (some (s.ethHead s.fw.items.dstMac none)) h (s.statusWords (s.f aOf.pourResstat 16 12)
              (s.pour.results.filter (fun r => !r.inj)).length ++
              (s.pour.results.filter (fun r => !r.inj)).flatMap PourResult.words)])))

/-- Self-tests (R261, Table 11-7). The ones that use an engine start it and wait for its end: a March, a scrub pass, a retirement,
PRBS through the driver of the lane's slice, an eye scan, a sweep over the rows of the LIT slices, a sweep over the segments. The
sensor check is answered at once with the elements marked failed; the test frame and the pixel scan, which take the light, wait for
the next edge. One whose engine cannot run is answered FAULT. -/
def Obligations.SelfTests : Prop :=
  ∀ (s : State) (q : Msg) (i : Nat),
    let arg := q.w 2
    let runs (n : Nat) (off : Bool) (t : State) : Prop := t.fw.test = some ⟨n, arg, off, s.extNs, 0⟩
    let faults (c : Instr) (n : Nat) : Prop := ∃ d, Answers c s 0x90#8 (q.sel 0 8 n) 10 d [] (fun t => t.fw.test = none)
    (s.takesTest 1 q = true → s.bit aOf.tunMarch 27 = false →
      HoldsFor (.selftestMarchPreserving q) s 0x90#8 (q.sel 0 8 1) (.test 1) (fun t => runs 1 false t ∧
        t.tun.march = some { block := fld arg 0 7, last := fld arg 16 7, preserving := true })) ∧
    (s.takesTest 2 q = true →
      HoldsFor (.selftestMarchDestructive q) s 0x90#8 (q.sel 0 8 2) (.test 2) (fun t => runs 2 false t ∧
        t.tun.march = some { block := fld arg 0 7, last := fld arg 16 7, preserving := false })) ∧
    (s.takesTest 3 q = true → s.cruOn = true →
      HoldsFor (.selftestScrub q) s 0x90#8 (q.sel 0 8 3) (.test 3) (fun t => runs 3 false t ∧
        t.cru.scrubAt = 0 ∧ t.cru.corrected = [])) ∧
    (∀ b, s.takesTest 4 q = true → s.cruOn = true → s.spareBank = some b →
      HoldsFor (.selftestBankRetire q) s 0x90#8 (q.sel 0 8 4) (.test 4) (fun t => runs 4 false t ∧
        t.cru.retire = some { bank := arg.toNat, spare := b, old := s.physOf arg.toNat, march := false })) ∧
    (s.takesTest 6 q = true → s.laneAlive (fld arg 0 6) = true →
      HoldsFor (.selftestEyeScan q) s 0x90#8 (q.sel 0 8 6) (.test 6) (fun t => runs 6 false t ∧
        t.bit (aOf.laneEye (fld arg 0 6)) 30 = true)) ∧
    (s.takesTest 5 q = true → s.laneAlive (fld arg 0 6) = true → s.sliceAt (fld arg 0 6) = some i → i < 64 →
      HoldsFor (.selftestLanePrbs q) s 0x90#8 (q.sel 0 8 5) (.test 5) (fun t => runs 5 (!s.canFailOver (fld arg 0 6)) t ∧
        t.f (aOf.laneCtrl (fld arg 0 6)) 8 2 = fld arg 8 2 ∧ ∃ w, (t.slice i).queue = (s.slice i).queue ++ [.cfg 1 w])) ∧
    (s.takesTest 7 q = true → s.domOn pdPipe = true → i < 64 → s.sliceState i = slLit →
      HoldsFor (.selftestReadbackSweep q) s 0x90#8 (q.sel 0 8 7) (.test 7) (fun t => runs 7 false t ∧
        (t.slice i).sweep = true ∧ (t.slice i).rbRow = 0 ∧ (t.slice i).queries = [])) ∧
    (s.takesTest 8 q = true → s.segOn = true → s.segEn = true →
      HoldsFor (.selftestSegmentSweep q) s 0x90#8 (q.sel 0 8 8) (.test 8) (runs 8 false)) ∧
    (s.takesTest 9 q = true →
      HoldsFor (.selftestTestFrame q) s 0x90#8 (q.sel 0 8 9) .nextEdge (runs 9 true)) ∧
    (s.takesTest 11 q = true →
      HoldsFor (.selftestPixelScan q) s 0x90#8 (q.sel 0 8 11) .nextEdge (runs 11 true)) ∧
    ((∀ r ∈ s.fw.requests, ∀ n, r.wait ≠ .test n) →
      (s.takesTest 10 q = true → ∃ fail w, Answers (.selftestSensorCheck q) s 0x90#8 (q.sel 0 8 10) 0 0
        [BitVec.ofNat 32 (10 + b2n fail * 256), BitVec.ofNat 32 s.elementsFailed, w] (fun t => t.fw.test = none)) ∧
      (s.takesTest 1 q = true → s.bit aOf.tunMarch 27 = true → faults (.selftestMarchPreserving q) 1) ∧
      (s.takesTest 3 q = true → s.cruOn = false → faults (.selftestScrub q) 3) ∧
      (s.takesTest 4 q = true → s.cruOn = false ∨ s.spareBank = none → faults (.selftestBankRetire q) 4) ∧
      (s.takesTest 5 q = true → s.laneAlive (fld arg 0 6) = false ∨ s.sliceAt (fld arg 0 6) = none → faults (.selftestLanePrbs q) 5) ∧
      (s.takesTest 6 q = true → s.laneAlive (fld arg 0 6) = false → faults (.selftestEyeScan q) 6) ∧
      (s.takesTest 7 q = true → s.domOn pdPipe = false → faults (.selftestReadbackSweep q) 7) ∧
      (s.takesTest 8 q = true → (s.segOn && s.segEn) = false → faults (.selftestSegmentSweep q) 8))

/-- Requests on lanes and power (R143, R262, R263). LANE_CTRL enables, disables, retrains, re-rates, takes and restores a lane,
and answers with the lane's report as it then stands; POWER_VOTE sets or clears the host's vote, or makes a request of the
sequencer that takes the next ticket, on behalf of a client that is not the host (assumption 115); HIBERNATE is answered before it is
made, and a request that lowers the operating point from BURST waits for the edge of the LIT period. -/
def Obligations.LaneAndPowerMessages : Prop :=
  ∀ (s : State) (q : Msg) (i : Nat),
    let n := fld (q.w 1) 0 6
    let w := q.w 2
    let acts (c : Instr) (a : Nat) (P : State → Prop) : Prop :=
      ∃ t, exec c s = .next t ∧ P t ∧ (s.answersNow q 5 = true → t.replyTo 0xA0#8 (q.sel 8 4 a) 0 0 (t.laneReport n) ∈ t.out)
    (s.takesAction 0 q = true → s.noLight = false → s.laneState (n / 2 * 2) = lnUp → s.laneState (n / 2 * 2 + 1) = lnUp →
      s.sliceAt n = some i →
      HoldsFor (.laneCtrlRestore q) s 0xA0#8 (q.sel 8 4 0) .nextEdge (fun t => (t.slice i).restore = true)) ∧
    (s.takesAction 1 q = true → acts (.laneCtrlEnable q) 1 (fun t => t.bit (aOf.laneCtrl n) 2 = true)) ∧
    (s.takesAction 2 q = true → acts (.laneCtrlDisable q) 2 (fun t => t.bit (aOf.laneCtrl n) 2 = false ∧ t.laneState n = lnOff)) ∧
    (s.takesAction 3 q = true → acts (.laneCtrlRetrain q) 3 (fun t =>
      s.laneState n = lnUp ∨ s.laneState n = lnFailed → t.laneState n = lnTrain)) ∧
    (s.takesAction 4 q = true → onlyBits w 3 = true → s.rateOverloads (n / 2) (fld w 0 2) = false →
      (s.f (aOf.lnkPair (n / 2)) 2 2 = 1 ∨ s.f (aOf.lnkPair (n / 2)) 2 2 = 2 →
        s.pairsKeep (s.withRate (n / 2) (fld w 0 2)) s.periodInForce s.op = true) →
      acts (.laneCtrlRate q) 4 (fun t => t.f (aOf.laneCtrl (n / 2 * 2)) 0 2 = fld w 0 2 ∧
        t.f (aOf.laneCtrl (n / 2 * 2 + 1)) 0 2 = fld w 0 2)) ∧
    (s.takesAction 5 q = true → onlyBits w 1 = true → acts (.laneCtrlTake q) 5 (fun t =>
      t.bit (aOf.laneCtrl n) 3 = bitOf w 0 ∧ (bitOf w 0 = true → s.laneState n ≠ lnOff → t.laneState n = lnTest))) ∧
    (s.admits 0xB0#8 (q.sel 0 2 0) = true → 3 ≤ q.len → onlyBits ((q.sel 0 2 0).w 1) 3 = true → onlyBits w 0x10F = true →
      fld w 0 4 ≠ 0 → fld w 0 4 ≤ 11 → absentDomain s.part (fld w 0 4) = false →
      ∃ t, exec (.powerVoteDomain q) s = .next t ∧ t.bit (aOf.pwrVote (fld w 0 4)) 0 = bitOf w 8 ∧
        (s.pwr.trans = none → s.answersNow q 4 = true →
          t.replyTo 0xB0#8 (q.sel 0 2 0) 0 0 [0#32, BitVec.ofNat 32 t.device] ∈ t.out)) ∧
    (s.admits 0xB0#8 (q.sel 0 2 1) = true → 3 ≤ q.len → onlyBits ((q.sel 0 2 1).w 1) 3 = true →
      (w.toNat = 1 → s.fw.lamp = .off → s.dstate pdPipe = 0 → s.nvRefuses = false →
        Answers (.powerVoteState q) s 0xB0#8 (q.sel 0 2 1) 0 0 [BitVec.ofNat 32 s.nextTicket, 1#32]
          (fun t => s.fw.outbox = [] → s.answersNow q 4 = true → t.pwr.tickets = s.nextTicket ∧ t.fw.hibernate = false)) ∧
      (2 ≤ w.toNat → w.toNat ≤ 4 → s.domOn pdPipe = false → s.device ≠ 4 →
        ∃ t, exec (.powerVoteState q) s = .next t ∧ t.pwr.tickets = s.nextTicket ∧ t.f aOf.pwrReq 0 16 = s.nextTicket ∧
          (s.pwr.trans.isSome = true → s.pwr.pendingReq = none →
            t.pwr.pendingReq = some ⟨s.nextTicket, 1, w.toNat, 4⟩ ∧
            s.heldFor 0xB0#8 (q.sel 0 2 1) (.ticket s.nextTicket) ∈ t.fw.requests)) ∧
      (w.toNat = 3 → s.device = 4 → s.fw.items.litOp ≤ 2 → s.bit aOf.timeFctrl 0 = true →
        s.admissible s.beam.setB s.fw.items.framePeriod s.fw.items.litOp = true →
        s.lanesOk s.view s.beam.setB s.fw.items.framePeriod s.fw.items.litOp = true →
        s.pairsKeep s.view s.fw.items.framePeriod s.fw.items.litOp = true →
        HoldsFor (.powerVoteState q) s 0xB0#8 (q.sel 0 2 1) (.reqEdge 1 3)
          (fun t => (s.time.pendTemper = false → t.time.pendPeriod = some (s.fw.items.framePeriod % 2 ^ 32 % 2 ^ 25)) ∧
            (s.time.pendTemper = true → t.time.pendPeriod = s.time.pendPeriod ∧ t.evSet 71 = true)))) ∧
    (s.admits 0xB0#8 (q.sel 0 2 2) = true → 3 ≤ q.len → onlyBits ((q.sel 0 2 2).w 1) 3 = true → w.toNat ≤ 3 → s.device ≠ 4 →
      (w.toNat = 3 ∨ (s.admissible s.beam.setB s.periodNs w.toNat = true ∧ s.lanesOk s.view s.beam.setB s.periodNs w.toNat = true)) →
      s.pairsKeep s.view s.periodNs w.toNat = true →
      ∃ t, exec (.powerVoteOp q) s = .next t ∧ t.pwr.tickets = s.nextTicket ∧ t.f aOf.pwrReq 0 16 = s.nextTicket ∧
        (s.pwr.trans.isSome = true → s.pwr.pendingReq = none →
          t.pwr.pendingReq = some ⟨s.nextTicket, 2, w.toNat, 4⟩ ∧
          s.heldFor 0xB0#8 (q.sel 0 2 2) (.ticket s.nextTicket) ∈ t.fw.requests))

/-! ### Power -/

/-- Votes, domains and DMA (R264 to R269, R277). A vote sets the client bits of SET, then clears those of CLR, and bit 27 clears
FORCED; a domain without children leaves ON for DRAINING when its last vote falls, and OFF for UP when it is voted for while
its parent is ON. The switch-on of a domain that is voted for ends ON, PD_PIPE's once its voltage stands; a drain ends in OFF, of siblings that entered it together the lower code first, or for PD_CRU in retention where
CRU_RET asks for it; a drain that times out ends its transactions with DOMAIN_OFF, sets FORCED and raises event 9. A transfer
between domains that are ON runs, and ends with the words of its source at its target, or where one reads uncorrectable, with a bus
error there; with a domain off it fails. -/
def Obligations.DomainCommands : Prop :=
  ∀ (s : State) (d : Fin 12) (v : Word) (x : DmaDesc) (i j : Nat),
    (s.canAccess (aOf.pwrVote d.val) = true →
      ∃ t, exec (.voteWrite d v) s = .next t ∧
        (∀ c, c < 6 → t.bit (aOf.pwrVote d.val) c = (if d.val = 0 then s.bit (aOf.pwrVote d.val) c
          else !bitOf v (16 + c) && (bitOf v (8 + c) || s.bit (aOf.pwrVote d.val) c))) ∧
        t.bit (aOf.pwrVote d.val) 27 = (s.bit (aOf.pwrVote d.val) 27 && !bitOf v 27)) ∧
    (s.canAccess (aOf.pwrVote d.val) = true → d.val ∈ [2, 3, 6, 7, 8, 9, 10] → absentDomain s.part d.val = false →
      (s.dstate d.val = 2 → fld v 16 6 = 63 → s.f (aOf.pwrVote d.val) 6 2 = 0 →
        ∃ t, exec (.voteWrite d v) s = .next t ∧ t.dstate d.val = 3) ∧
      (s.dstate d.val = 0 → s.domOn (domParent d.val) = true → fld v 16 6 = 0 → fld v 8 6 ≠ 0 →
        ∃ t, exec (.voteWrite d v) s = .next t ∧ t.dstate d.val = 1)) ∧
    (s.alive = true → s.dstate d.val = 1 → s.domOn (domParent d.val) = true → s.f (aOf.pwrVote d.val) 0 6 ≠ 0 →
      (s.voltWaits d.val = false → ∃ t, exec (.domainOn d) s = .next t ∧ t.dstate d.val = 2) ∧
      (s.voltWaits d.val = true → exec (.domainOn d) s = .next s.begin)) ∧
    (s.mayLeave d.val = false → exec (.drainEnd d) s = .next s.begin ∧ exec (.drainTimeout d) s = .next s.begin) ∧
    (s.alive = true → 0 < d.val → s.dstate d.val = 3 → s.mayLeave d.val = true → s.wanted d.val = false → (d.val = 1 → s.pwr.wakePending = []) →
      (d.val = 4 → s.fw.restart ≠ 2) →
      (∃ t, exec (.drainEnd d) s = .next t ∧
        t.dstate d.val = (if d.val = 5 ∧ s.bit aOf.pwrCtrl 0 = true then 4 else 0)) ∧
      (∃ t, exec (.drainTimeout d) s = .next t ∧ .domainOff ∈ t.out ∧ t.bit (aOf.pwrVote d.val) 27 = true ∧
        t.dstate d.val = (if d.val = 5 ∧ s.bit aOf.pwrCtrl 0 = true then 4 else 0) ∧
        (s.domOn pdCtrl = true → t.evSet 9 = true))) ∧
    (s.alive = true → s.domOn pdCtrl = true → s.pwr.dma = none → domOfAddr s.part x.src ≠ none → domOfAddr s.part x.dst ≠ none →
      (s.addrOn x.src = true → s.addrOn x.dst = true →
        ∃ t, exec (.dmaTransfer x) s = .next t ∧ t.pwr.dma = some x) ∧
      ((s.addrOn x.src = false ∨ s.addrOn x.dst = false) →
        exec (.dmaTransfer x) s = .next (s.begin.emit .domainOff))) ∧
    (s.alive = true → s.pwr.dma = some x →
      (∃ t, exec .dmaTransferEnd s = .next t ∧ t.pwr.dma = none) ∧
      (x.src = 0x20000000 + i → x.dst = 0x20000000 + j → i % 4 = 0 → j % 4 = 0 → i + x.len ≤ s.part.cruSize →
        j + x.len ≤ s.part.cruSize → (i + x.len ≤ j ∨ j + x.len ≤ i) → s.domOn pdCru = true → s.cru.poison = [] →
        (∀ k, k < x.len / 4 → s.part.runnerWord (i + 4 * k) = false) →
        (x.faults = [] → ∃ t, exec .dmaTransferEnd s = .next t ∧ t.pwr.dma = none ∧
          ∀ k, k < x.len / 4 → t.cruWord (j + 4 * k) = s.cruWord (i + 4 * k)) ∧
        (x.faults = [(0, .uncorrectable)] → 4 ≤ x.len → ∃ t, exec .dmaTransferEnd s = .next t ∧ t.pwr.dma = none ∧
          .busError ∈ t.out ∧ i / 8 ∈ t.cru.poison ∧ ∀ a, t.cruByte a = s.cruByte a)))

/-- Requests and operating points (R270 to R273). A request of the active core takes the next ticket and starts, or takes the
pending slot, superseding what waits there; one that is denied, or whose target is in force, completes at once. With PD_PIPE ON, a raise sends its voltage
first, waits for its settling and the PLL, and switches at an edge; a lowering prepares the PLL, switches at an edge and then
sends its voltage. A regulator that does not acknowledge ends a raise DENIED and marks a lowering, with event 13. The voltage with
which PD_PIPE switches on settles, or fails with event 13 (what then becomes of the target is the model's choice, assumption 116). -/
def Obligations.RequestCommands : Prop :=
  ∀ (s : State) (client target : Nat) (r : PwrReq) (x : Trans), s.alive = true →
    (∀ kind c, (kind, c) ∈ [(1, Instr.pwrReqState s.active.master client target), (2, .pwrReqOp s.active.master client target)] →
      s.canAccess aOf.pwrReq = true → reqValid kind client target = true →
      (∃ t, exec c s = .next t ∧ t.pwr.tickets = s.nextTicket ∧ t.f aOf.pwrReq 0 16 = s.nextTicket) ∧
      ((s.pwr.trans.isSome = true ∨ s.pwr.stepTrans.isSome = true) →
        ∃ t, exec c s = .next t ∧ t.pwr.pendingReq = some ⟨s.nextTicket, kind, target, client⟩ ∧
          (∀ o, s.pwr.pendingReq = some o → s.pwr.done.length < 8 →
            t.pwr.done = s.pwr.done ++ [⟨o.ticket, 12, s.resultOf o.kind⟩])) ∧
      (s.pwr.trans = none → s.pwr.stepTrans = none → s.pwr.pendingReq = none →
        s.reqDenied ⟨s.nextTicket, kind, target, client⟩ = true → s.inForce ⟨s.nextTicket, kind, target, client⟩ = false →
        s.pwr.done.length < 8 →
        ∃ t, exec c s = .next t ∧ t.pwr.done = s.pwr.done ++ [⟨s.nextTicket, 4, s.resultOf kind⟩] ∧ t.pwr.trans = none)) ∧
    (s.canAccess aOf.pwrReq = true → client < 6 → s.pwr.trans = none → s.pwr.stepTrans = none → s.pwr.pendingReq = none →
      s.domOn pdPipe = true →
      (target ≤ 3 → target = s.op → s.pwr.done.length < 8 → ∃ t, exec (.pwrReqOp s.active.master client target) s = .next t ∧
        t.pwr.trans = none ∧ t.pwr.done = s.pwr.done ++ [⟨s.nextTicket, 0, target⟩]) ∧
      (s.reqDenied ⟨s.nextTicket, 2, target, client⟩ = false → target ≠ s.op → ∃ t, exec (.pwrReqOp s.active.master client target) s = .next t ∧ t.f aOf.pwrState 6 2 = target ∧
        t.pwr.trans = some { req := ⟨s.nextTicket, 2, target, client⟩, goal := target, raising := decide (s.op < target),
                             stage := if s.op < target then .avs else .pll, domains := [] } ∧
        (s.op < target → t.pwr.volt = target ∧ .avs (s.f aOf.pwrAvs 0 7) (s.f (aOf.pwrOpv target) 0 16) ∈ t.out))) ∧
    (s.pwr.pendingReq = some r → s.pwr.trans = none → s.pwr.stepTrans = none →
      ∃ t, exec .requestStart s = .next t ∧ t.pwr.pendingReq = none ∧
        (s.reqDenied r = true → s.inForce r = false → s.pwr.done.length < 8 → t.pwr.done = s.pwr.done ++ [⟨r.ticket, 4, s.resultOf r.kind⟩])) ∧
    (s.domOn pdPipe = true → s.pwr.trans = some x → x.stage = .edge → x.goal < 4 → x.req.kind = 2 → x.domains = [] →
      (∃ t, exec .opSwitch s = .next t ∧ t.op = x.goal ∧
        (x.raising = true → t.pwr.trans = none ∧
          (s.pwr.done.length < 8 → t.pwr.done = s.pwr.done ++ [⟨x.req.ticket, 0, x.goal⟩])) ∧
        (x.raising = false → t.pwr.volt = x.goal ∧ t.pwr.trans = some { x with stage := .avs }))) ∧
    (s.pwr.trans = some x →
      (x.stage = .pll → exec .pllPrepareEnd s =
        .next { s.begin with pwr := { s.pwr with trans := some { x with stage := .edge } } }) ∧
      (x.stage = .avs → s.pwr.avsJob = none →
        (∃ t, exec (.avsTransactionEnd true) s = .next t ∧ t.pwr.trans = some { x with stage := .settle } ∧
          t.bit aOf.pwrState 9 = false) ∧
        (x.raising = true → ∃ t, exec (.avsTransactionEnd false) s = .next t ∧ t.pwr.trans = none ∧ t.pwr.volt = s.op ∧
          (s.pwr.done.length < 8 → t.pwr.done = s.pwr.done ++ [⟨x.req.ticket, 4, s.resultOf x.req.kind⟩]) ∧
          (s.domOn pdCtrl = true → t.evSet 13 = true)) ∧
        (x.raising = false → x.req.kind = 2 → x.domains = [] → ∃ t, exec (.avsTransactionEnd false) s = .next t ∧
          t.pwr.trans = none ∧ t.bit aOf.pwrState 9 = true ∧ (s.domOn pdCtrl = true → t.evSet 13 = true))) ∧
      (x.stage = .settle → s.pwr.avsJob = none →
        (x.raising = true → ∃ t, exec .avsSettleEnd s = .next t ∧ t.pwr.trans = some { x with stage := .pll }) ∧
        (x.raising = false → x.req.kind = 2 → x.domains = [] → ∃ t, exec .avsSettleEnd s = .next t ∧ t.pwr.trans = none ∧
          (s.pwr.done.length < 8 → t.pwr.done = s.pwr.done ++ [⟨x.req.ticket, 0, s.resultOf 2⟩])))) ∧
    (∀ y, s.pwr.avsJob = some y →
      (y.settling = false →
        (∃ t, exec (.avsTransactionEnd true) s = .next t ∧ t.bit aOf.pwrState 9 = false ∧
          t.pwr.avsJob = (if y.up then some { y with settling := true } else none)) ∧
        (∃ t, exec (.avsTransactionEnd false) s = .next t ∧ (s.domOn pdCtrl = true → t.evSet 13 = true) ∧
          (y.up = true → y.before < y.op → t.pwr.volt = y.before ∧ t.f aOf.pwrState 6 2 = y.before % 4) ∧
          (y.up = true → y.op < y.before → t.bit aOf.pwrState 9 = true))) ∧
      (y.settling = true → exec .avsSettleEnd s = .next { s.begin with pwr := { s.pwr with avsJob := none } })) ∧
    (s.canAccess aOf.pwrDone = true →
      exec .powerDonePop s = .next { s.begin with pwr := { s.pwr with done := s.pwr.done.drop 1 } })

/-- Wake, power fail and resets (R276, R279, R280, R299, R303, R316, R317, R329, R330). An armed source wakes a device whose
PD_CTRL is OFF, or waits for that; PFAIL starts one save, whose end says what it wrote; the pin's release is event 12. The reset
pin and a supply out of range take the device to OFF; HOSTRST_N resets both cores and both ports until it is released; test mode
holds everything; power-up brings every register to its reset value, keeping fuses, NV array and flash, with the blocks the
March failed marked; of the units that waited for the NV array, the one whose write had begun is completed (R331). -/
def Obligations.ResetCommands : Prop :=
  ∀ (s : State) (src : WakeSource) (rail : Rail) (straps : Straps) (fail : List Nat),
    (s.alive = true →
      (s.armed src = true → src ∉ s.pwr.wakePending → (s.dstate pdCtrl = 2 ∨ s.dstate pdCtrl = 3) →
        ∃ t, exec (.wake src) s = .next t ∧ t.pwr.wakePending = s.pwr.wakePending ++ [src]) ∧
      (s.armed src = true → src ∉ s.pwr.wakePending → s.dstate pdCtrl = 0 → s.domOn 11 = true →
        ∃ t, exec (.wake src) s = .next t ∧ t.dstate pdCtrl = 1 ∧ t.bit aOf.pwrWakeSrc
          (match src with | .wakePin => 1 | .hwake .p0 => 2 | .hwake .p1 => 3 | .timer => 4) = true) ∧
      (s.pins.pfailLow = false → s.pwr.saving = false →
        ∃ t, exec .pfail s = .next t ∧ t.pins.pfailLow = true ∧ t.pwr.saving = true ∧ t.nv.queue = [] ∧ t.nvRefuses = true ∧
          t.bit aOf.pwrPfstat 0 = true ∧
          (s.domOn pdCtrl = true → s.f (aOf.pwrVote pdCtrl) 0 6 ≠ 0 → t.evSet 10 = true)) ∧
      (s.pins.pfailLow = false → s.pwr.saving = true →
        exec .pfail s = .next { s.begin with pins := { s.pins with pfailLow := true } }) ∧
      (s.pwr.saving = true → s.saveWaits = true → exec .pfailSaved s = .next s.begin) ∧
      (s.pwr.saving = true → s.saveWaits = false →
        ∃ t, exec .pfailSaved s = .next t ∧ t.pwr.saving = false ∧ t.bit aOf.pwrPfstat 0 = false ∧ t.bit aOf.pwrPfstat 1 = true ∧
          t.nvRefuses = (s.nvRefuses && s.pins.pfailLow) ∧
          (s.domOn pdCtrl = true → s.f (aOf.pwrVote pdCtrl) 0 6 ≠ 0 → t.evSet 11 = true)) ∧
      (s.pins.pfailLow = true →
        ∃ t, exec .pfailCleared s = .next t ∧ t.pins.pfailLow = false ∧ (s.pwr.saving = false → t.nvRefuses = false) ∧
          (s.domOn pdCtrl = true → t.evSet 12 = true)) ∧
      (∀ c ∈ [Instr.porstAssert, .supplyMonitorTrip rail], ∃ t, exec c s = .next t ∧ t.alive = false ∧ t.device = 0 ∧
        t.core .cp0 = .reset ∧ t.core .cp1 = .reset) ∧
      (s.pins.hostrstLow = false →
        ∃ t, exec .hostReset s = .next t ∧ t.pins.hostrstLow = true ∧ t.port0 = { HostPort.reset with inReset := true } ∧
          t.port1 = { HostPort.reset with inReset := true } ∧
          t.core .cp0 = .reset ∧ t.core .cp1 = .reset ∧ t.fw.started = false ∧ t.f aOf.sysBoot 0 4 = 0 ∧
          t.gen 1 = (s.gen 1 + 1) % 16) ∧
      (s.pins.hostrstLow = true →
        ∃ t, exec .hostResetRelease s = .next t ∧ t.pins.hostrstLow = false ∧ t.port0.inReset = false ∧ t.port1.inReset = false ∧
          (s.domOn pdCtrl = true → t.core .cp0 = .rom ∧ t.core .cp1 = .rom ∧ t.f aOf.sysBoot 0 4 = 2 ∧
            t.fw.silenceFrom = s.extNs))) ∧
    (∃ t, exec .testmodeEntry s = .next t ∧ t.alive = false ∧ t.core .cp0 = .reset ∧ t.core .cp1 = .reset) ∧
    (∃ t, exec (.powerOnReset straps fail) s = .next t ∧ t.alive = true ∧ t.fuses = { s.fuses with straps := straps } ∧
      (s.alive = false ∨ (s.nv.queue = [] ∧ s.pwr.saving = false) → t.nv.cells = s.nv.cells) ∧
      (∀ u r, s.alive = true → s.pwr.saving = false → s.nv.queue = u :: r → t.nv.cells = (s.nvPut u.1 u.2).nv.cells) ∧
      t.nv.queue = [] ∧ t.cpu.flash = s.cpu.flash ∧ t.fw.started = false ∧
      (∀ a, a ≠ aOf.sysBoot → (∀ j, j < 4 → a ≠ aOf.tunBad j) → t.rd a = resetValue s.part a) ∧
      (∀ b, b < 128 → t.blockBit (aOf.tunBad 0) b = fail.contains b))

/-! ### The NV store and the sensors -/

/-- The NV store (R284 to R287, R291, R292, R307). A unit written joins the queue of four, a protected one meets a bus error with
event 837 and a fifth a bus error; the oldest unit reaches the array and no other byte changes; a window read answers the word,
once the units queued for its page are written, with event 832 and a write-back for a corrected group, and meets a bus error with
event 833 on an uncorrectable one; LOCK stays; the wear engine starts, and
ends with the copy and sequence it wrote in NVC_WEAR and NVC_WSEQ and event 838; while it runs it takes turns with the queue, unit by unit; the log tail is appended, record by record; each lit hour saves
the operating hours. -/
def Obligations.StoreCommands : Prop :=
  ∀ (s : State) (m : Master) (unit addr : Nat) (ecc : EccResult) (a : Nat) (bs : List Byte) (r : List (Nat × List Byte))
    (faults : List CruFault),
    (s.canAccess aOf.nvcWcmd = true → unit < 32768 → s.nvRefuses = false →
      (s.nvProtected (unit * 32) = false → s.nv.queue.length < 4 → ∃ t, exec (.nvUnitWrite m unit) s = .next t ∧
        t.nv.queue = s.nv.queue ++ [(unit * 32, (List.range 8).flatMap (fun i => leBytes (s.rd (aOf.nvcWdata i))))] ∧
        t.nv.cells = s.nv.cells ∧ t.f aOf.nvcStat 0 3 = 3 - s.nv.queue.length ∧ t.bit aOf.nvcStat 4 = false) ∧
      (s.nvProtected (unit * 32) = true → ∃ t, exec (.nvUnitWrite m unit) s = .next t ∧ .busError ∈ t.out ∧ t.nv = s.nv ∧
        (s.domOn pdCtrl = true → t.evSet 837 = true)) ∧
      (s.nvProtected (unit * 32) = false → 4 ≤ s.nv.queue.length → ∃ t, exec (.nvUnitWrite m unit) s = .next t ∧
        t.out = [.busError] ∧ t.nv = s.nv)) ∧
    (s.nvOn = true → s.nv.queue = (a, bs) :: r → ∃ t, exec .nvUnitDone s = .next t ∧ t.nv.queue = r ∧
      (s.nv.wear = false → t.nvBytes a bs.length = bs) ∧
      ∀ b, (b < a ∨ a + bs.length ≤ b) → (s.nv.wear = true → s.nv.wearAt < 8192 → b < recBody 4 s.wearCopy + 32 * s.nv.wearAt ∨
        recBody 4 s.wearCopy + 32 * s.nv.wearAt + 32 ≤ b) → tget zeroInit t.nv.cells b = tget zeroInit s.nv.cells b) ∧
    (s.nvOn = true → s.nv.wear = true → s.nv.wearAt < 8192 → s.bpCovers (recBody 4 s.wearCopy) = false →
      ∃ t, exec .nvUnitDone s = .next t ∧ t.nv.wearAt = s.nv.wearAt + 1 ∧
        t.nvBytes (recBody 4 s.wearCopy + 32 * s.nv.wearAt) 32 = s.wearCounters (8 * s.nv.wearAt) 8) ∧
    (s.alive = true → addr < 0x100000 → s.domOn pdNv = true →
      let u := (s.nvMark addr ecc).nvStall addr
      (s.nv.queue.any (fun x => x.1 / 4096 == addr / 4096) = true → u.nv.queue = []) ∧
      (addr / 8 ∉ u.nv.bad → ∃ t, exec (.nvWindowRead m addr ecc) s = .next t ∧ .data (u.nvWord addr) ∈ t.out ∧
        t.nv.cells = u.nv.cells ∧ (addr / 8 ∉ u.nv.weak → t.nv = u.nv) ∧
        (addr / 8 ∈ u.nv.weak → (s.domOn pdCtrl = true → t.evSet 832 = true) ∧
          (s.nvProtected addr = false → addr / 8 ∉ t.nv.weak))) ∧
      (addr / 8 ∈ u.nv.bad → ∃ t, exec (.nvWindowRead m addr ecc) s = .next t ∧ .busError ∈ t.out ∧ t.nv = u.nv ∧
        t.f aOf.nvcEcc 0 20 = addr ∧ (s.domOn pdCtrl = true → t.evSet 833 = true))) ∧
    (s.canAccess aOf.nvcCtrl = true → ∃ t, exec .nvLock s = .next t ∧ t.bit aOf.nvcCtrl 31 = true ∧ AtMost [] [aOf.nvcCtrl] s t) ∧
    (s.canAccess aOf.nvcWear = true →
      (s.nv.wear = false → s.nvRefuses = false → s.domOn pdCru = true → ∃ t, exec .wearSave s = .next t ∧ t.nv.wear = true ∧
        t.bit aOf.nvcWear 30 = true) ∧
      (s.nv.wear = false → s.nvRefuses = false → s.domOn pdCru = false → exec .wearSave s = .next (s.begin.emit .domainOff)) ∧
      (s.nv.wear = true → exec .wearSave s = .next s.begin)) ∧
    (s.nvOn = true → s.nv.wear = true → s.bpCovers (recBody 4 (1 - s.f aOf.nvcWear 0 1)) = false →
      ∃ t, exec (.nvWearDone faults) s = .next t ∧ t.nv.wear = false ∧ t.bit aOf.nvcWear 30 = false ∧
        t.f aOf.nvcWear 0 1 = 1 - s.f aOf.nvcWear 0 1 ∧ t.rd aOf.nvcWseq = s.rd aOf.nvcWseq + 1#32 ∧
        (s.domOn pdCtrl = true → s.f (aOf.pwrVote pdCtrl) 0 6 ≠ 0 → t.evSet 838 = true)) ∧
    (s.fwRuns = true → s.nvRefuses = false →
      (s.nvProtected 0x40000 = false → s.fw.logLost = 0 → ∃ t, exec .logAppend s = .next t ∧ t.tailCount = 0 ∧
        t.fw.logSeq = s.fw.logSeq ∧
        t.f aOf.nvcLogptr 0 12 = (s.f aOf.nvcLogptr 0 12 + s.tailCount) % 4096 ∧
        ∀ k, k < s.tailCount → t.nvBytes (0x40000 + (s.f aOf.nvcLogptr 0 12 + k) % 4096 * 32) 32 = s.tailRecord k) ∧
      (3600 ≤ (s.rd aOf.pwrLitsec).toNat - s.fw.litSaved → s.bpCovers (recHdr 2 (1 - s.f aOf.nvcWear 1 1)) = false →
        ∃ t, exec .litHourSave s = .next t ∧ t.fw.litSaved = (s.rd aOf.pwrLitsec).toNat ∧
          t.rd aOf.nvcHseq = s.rd aOf.nvcHseq + 1#32 ∧ (s.domOn pdCru = true → t.nv.wear = true)))

/-- Sensors and the ADC (R114, R257, R293 to R295, R297). A schedule boundary applies what waits for it and delivers every input
and sensor, one under calibration keeping its value; AIN0 keeps the lowest code of the Temper window; a calibration starts
unless one runs or OBJ names none, in which case OBJ alone is set, ends each object with event 840 or 841, and is BUSY until the last; the trims follow the temperature; a CAL_RUN
that takes too long is answered TIMEOUT. -/
def Obligations.SensorCommands : Prop :=
  ∀ (s : State) (r : AdcReadings) (code : BitVec 12) (n : Fin 16) (obj : BitVec 8) (q : Msg) (i : Nat) (rest : List Nat)
    (readings verify : List (Option Int)) (bs : List Byte) (tj : Int) (vref : Nat) (res : List Int) (trim : List (BitVec 16)),
    (s.calOn = true →
      (r.ain.length = 7 → r.ts.length = 16 → ∃ t, exec (.adcSchedule r) s = .next t ∧ t.cal.pendApply = [] ∧
        (∀ j, j < 7 → t.rd (aOf.calAin (j + 1)) = (r.ain.getD j 0#12).setWidth 32) ∧
        (∀ j, j < 16 → t.bit (aOf.calTs j) 31 = t.sensorStale j ∧ t.f (aOf.calTs j) 0 16 =
          if s.calObject = some j then s.f (aOf.calTs j) 0 16
          else unsx 16 (t.sensorTemp j ((r.ts.getD j []).getD (fld (t.calApplied (aOf.calTsctl j)) 0 2) 0#16).toNat))) ∧
      (∃ t, exec (.ain0Conversion code) s = .next t ∧ t.rd (aOf.calAin 0) = code.setWidth 32 ∧
        (s.domOn pdPipe = true → t.temper.vbatLow = some (match s.temper.vbatLow with
          | none => code.toNat
          | some v => min v code.toNat)))) ∧
    (s.canAccess (aOf.calTsctl n.val) = true → ∃ t, exec (.calApply n) s = .next t ∧ n.val ∈ t.cal.pendApply ∧ AtMost [.cal] [] s t) ∧
    (s.canAccess aOf.calCmd = true →
      (s.cal.calRun = none → calObjects obj.toNat ≠ [] → ∃ t, exec (.calStart obj) s = .next t ∧
        t.cal.calRun = some (calObjects obj.toNat) ∧ t.rd aOf.calCmd = BitVec.ofNat 32 (2 ^ 30 + obj.toNat)) ∧
      (s.cal.calRun.isSome = true ∨ calObjects obj.toNat = [] → ∃ t, exec (.calStart obj) s = .next t ∧
        t.f aOf.calCmd 0 8 = obj.toNat ∧ AtMost [] [aOf.calCmd] s t)) ∧
    (s.calOn = true → s.cal.calRun = some (i :: rest) → i < 16 →
      let c := sensorCal readings verify
      ∃ t, exec (.calEnd (.sensor readings verify)) s = .next t ∧ t.cal.calRun = (if rest = [] then none else some rest) ∧
        (rest = [] → t.bit aOf.calCmd 30 = false) ∧ t.f (aOf.calTsctl i) 4 4 = c.failed % 16 ∧
        (c.failed ≠ 0 → t.evSet 842 = true) ∧
        (c.cause = 0 → t.evSet 840 = true ∧ t.f (aOf.calTsctl i) 0 2 = c.elem % 4 ∧ t.rd aOf.calRes0 = BitVec.ofInt 32 c.residual ∧
          t.f (aOf.calTsc0 (4 * i + c.elem)) 0 16 = unsx 16 (sx 16 (s.f (aOf.calTsc0 (4 * i + c.elem)) 0 16) + c.move)) ∧
        (c.cause ≠ 0 → t.evSet 841 = true ∧ t.bit aOf.calCmd 29 = true ∧
          (∀ e, e < 4 → t.rd (aOf.calTsc0 (4 * i + e)) = s.rd (aOf.calTsc0 (4 * i + e))))) ∧
    (s.calOn = true → s.cal.calRun = some (16 :: rest) →
      ∃ t, exec (.calEnd (.adc vref res trim)) s = .next t ∧ t.cal.calRun = (if rest = [] then none else some rest) ∧
        ((vref < 2450 ∨ 2550 < vref) → t.evSet 841 = true ∧ (∀ k, k < 2 → t.rd (aOf.calAdc k) = s.rd (aOf.calAdc k))) ∧
        (2450 ≤ vref → vref ≤ 2550 → (∀ k, k < 2 → (res.getD k 0).natAbs ≤ 500) → t.evSet 840 = true ∧
          ∀ k, k < 2 → s.bit aOf.calCtrl (1 + k) = false → t.f (aOf.calAdc k) 0 16 = (trim.getD k 0#16).toNat)) ∧
    (s.fwRuns = true →
      (s.recLoad 0 = some bs → s.dieMax = some tj → ∃ t, exec .adcTrimUpdate s = .next t ∧ ∀ k, k < 2 →
        let f := factoryTrim bs k tj
        let u := entryWord (s.calEntryOf false (16 + k)) 0
        t.f (aOf.calAdc k) 0 16 = trimWord (f.1 + sx 10 (fld u 16 10)) (f.2 + sx 6 (fld u 26 6))) ∧
      (∃ t, exec .calRunTimeout s = .next t ∧ (∀ w ∈ t.fw.requests, w.wait ≠ .calEnd) ∧
        (∀ x w, s.fw.requests = [⟨0x60#8, q, .calEnd, x, w⟩] → q.gen.toNat = s.gen 0 → s.answersNow q 2 = true →
          s.replyTo 0x60#8 q 7 0 [] ∈ t.out)))
end

