-- ==== Sys2Proof/Laws/Tab.lean ====
section
/-! SUPPORT. The laws of sparse tables: a read after a write, and the canonical form every operation keeps. -/

namespace Sys2Proof.Machine

open Sys2Proof

variable {α : Type}

@[simp] theorem tget_nil (d : Nat → α) (k : Nat) : tget d [] k = d k := rfl

theorem tget_cons (d : Nat → α) (e : Nat × α) (t : Tab α) (k : Nat) :
    tget d (e :: t) k = if e.1 = k then e.2 else tget d t k := rfl

/-- A written key reads as what was written. -/
@[simp] theorem tget_tput_self (d : Nat → α) (t : Tab α) (k : Nat) (v : α) : tget d (tput t k v) k = v := by
  induction t with
  | nil => simp [tput, tget_cons]
  | cons e t ih =>
    obtain ⟨j, w⟩ := e
    simp only [tput]
    split
    · simp [tget_cons]
    · split
      · simp [tget_cons]
      · rename_i h; simp [tget_cons, h, ih]

/-- Every other key reads as before. -/
theorem tget_tput_ne (d : Nat → α) (t : Tab α) {k j : Nat} (v : α) (h : j ≠ k) :
    tget d (tput t k v) j = tget d t j := by
  induction t with
  | nil => simp [tput, tget_cons, h.symm]
  | cons e t ih =>
    obtain ⟨i, w⟩ := e
    simp only [tput]
    split
    · simp [tget_cons, h.symm]
    · split
      · rename_i h2; subst h2; simp [tget_cons, h.symm]
      · simp [tget_cons, ih]

/-- A removed key reads as an unlisted one. -/
@[simp] theorem tget_tdel_self (d : Nat → α) (t : Tab α) (k : Nat) : tget d (tdel t k) k = d k := by
  induction t with
  | nil => rfl
  | cons e t ih =>
    obtain ⟨j, w⟩ := e
    simp only [tdel]
    split
    · exact ih
    · rename_i h; simp [tget_cons, h, ih]

/-- Removing a key leaves every other key. -/
theorem tget_tdel_ne (d : Nat → α) (t : Tab α) {k j : Nat} (h : j ≠ k) : tget d (tdel t k) j = tget d t j := by
  induction t with
  | nil => rfl
  | cons e t ih =>
    obtain ⟨i, w⟩ := e
    simp only [tdel]
    split
    · rename_i h2; subst h2; simp [tget_cons, h.symm, ih]
    · simp [tget_cons, ih]

/-- Read after write of the same key. -/
@[simp] theorem tget_tset_self [DecidableEq α] (d : Nat → α) (t : Tab α) (k : Nat) (v : α) :
    tget d (tset d t k v) k = v := by
  unfold tset
  split
  · simp [*]
  · simp

/-- A write leaves every other key. -/
theorem tget_tset_ne [DecidableEq α] (d : Nat → α) (t : Tab α) {k j : Nat} (v : α) (h : j ≠ k) :
    tget d (tset d t k v) j = tget d t j := by
  unfold tset
  split
  · exact tget_tdel_ne d t h
  · exact tget_tput_ne d t v h

/-- A key read after any write. -/
theorem tget_tset [DecidableEq α] (d : Nat → α) (t : Tab α) (k j : Nat) (v : α) :
    tget d (tset d t k v) j = if j = k then v else tget d t j := by
  split
  · rename_i h; subst h; simp
  · rename_i h; exact tget_tset_ne d t v h

/-- A cleared key reads as an unlisted one, the others as before. -/
theorem tget_tclear (d : Nat → α) (p : Nat → Bool) (t : Tab α) (k : Nat) :
    tget d (tclear p t) k = if p k then d k else tget d t k := by
  induction t with
  | nil => simp [tclear]
  | cons e t ih =>
    obtain ⟨j, w⟩ := e
    simp only [tclear, List.filter] at ih ⊢
    by_cases hj : j = k
    · subst hj
      cases hp : p j
      · simp [tget_cons]
      · simpa [hp] using ih
    · cases hp : p j <;> simp [tget_cons, hj, ih]

theorem twf_cons [DecidableEq α] (d : Nat → α) (e : Nat × α) (t : Tab α) :
    twf d (e :: t) = true ↔ e.2 ≠ d e.1 ∧ (∀ x ∈ t, e.1 < x.1) ∧ twf d t = true := by
  obtain ⟨k, v⟩ := e
  simp [twf, and_assoc]

theorem mem_tdel {t : Tab α} {k : Nat} {x : Nat × α} (h : x ∈ tdel t k) : x ∈ t := by
  induction t with
  | nil => simp [tdel] at h
  | cons e t ih =>
    obtain ⟨j, w⟩ := e
    simp only [tdel] at h
    split at h
    · exact List.mem_cons_of_mem _ (ih h)
    · rcases List.mem_cons.1 h with h | h
      · exact h ▸ List.mem_cons_self
      · exact List.mem_cons_of_mem _ (ih h)

theorem mem_tput {t : Tab α} {k : Nat} {v : α} {x : Nat × α} (h : x ∈ tput t k v) : x = (k, v) ∨ x ∈ t := by
  induction t with
  | nil => simpa [tput] using h
  | cons e t ih =>
    obtain ⟨j, w⟩ := e
    simp only [tput] at h
    split at h
    · simpa using h
    · split at h
      · rcases List.mem_cons.1 h with h | h
        · exact .inl h
        · exact .inr (List.mem_cons_of_mem _ h)
      · rcases List.mem_cons.1 h with h | h
        · exact .inr (h ▸ List.mem_cons_self)
        · exact (ih h).imp id (List.mem_cons_of_mem _)

variable [DecidableEq α]

theorem twf_tdel (d : Nat → α) {t : Tab α} (k : Nat) (h : twf d t = true) : twf d (tdel t k) = true := by
  induction t with
  | nil => rfl
  | cons e t ih =>
    have ⟨h1, h2, h3⟩ := (twf_cons d e t).1 h
    obtain ⟨j, w⟩ := e
    simp only [tdel]
    split
    · exact ih h3
    · exact (twf_cons _ _ _).2 ⟨h1, fun x hx => h2 x (mem_tdel hx), ih h3⟩

theorem twf_tput (d : Nat → α) {t : Tab α} {k : Nat} {v : α} (hv : v ≠ d k) (h : twf d t = true) :
    twf d (tput t k v) = true := by
  induction t with
  | nil => simp [tput, twf, hv]
  | cons e t ih =>
    have ⟨h1, h2, h3⟩ := (twf_cons d e t).1 h
    obtain ⟨j, w⟩ := e
    simp only [tput]
    split
    · rename_i hk
      refine (twf_cons _ _ _).2 ⟨hv, fun x hx => ?_, h⟩
      rcases List.mem_cons.1 hx with hx | hx
      · exact hx ▸ hk
      · exact Nat.lt_trans hk (h2 x hx)
    · split
      · rename_i hjk
        subst hjk
        exact (twf_cons _ _ _).2 ⟨hv, h2, h3⟩
      · refine (twf_cons _ _ _).2 ⟨h1, fun x hx => ?_, ih h3⟩
        rcases mem_tput hx with hx | hx
        · subst hx; exact show j < k by omega
        · exact h2 x hx

/-- A write keeps the canonical form. -/
theorem twf_tset (d : Nat → α) {t : Tab α} (k : Nat) (v : α) (h : twf d t = true) : twf d (tset d t k v) = true := by
  unfold tset
  split
  · exact twf_tdel d k h
  · rename_i hv; exact twf_tput d hv h

/-- Clearing keeps the canonical form. -/
theorem twf_tclear (d : Nat → α) (p : Nat → Bool) {t : Tab α} (h : twf d t = true) : twf d (tclear p t) = true := by
  induction t with
  | nil => rfl
  | cons e t ih =>
    have ⟨h1, h2, h3⟩ := (twf_cons d e t).1 h
    have ih := ih h3
    simp only [tclear, List.filter] at ih ⊢
    split
    · exact (twf_cons _ _ _).2 ⟨h1, fun x hx => h2 x (List.mem_of_mem_filter hx), ih⟩
    · exact ih

end Sys2Proof.Machine
end

