-- ==== Sys2Proof/Laws/State.lean ====
section
/-! SUPPORT. What each basic update of State leaves and what it changes: one lemma per field per update. -/

namespace Sys2Proof.Machine

open Sys2Proof

variable (s : State)

/-! ### `State.begin` -/

@[simp] theorem State.begin_pending : s.begin.pending = s.pending := rfl
@[simp] theorem State.begin_free : s.begin.free = s.free := rfl
@[simp] theorem State.begin_fuses : s.begin.fuses = s.fuses := rfl
@[simp] theorem State.begin_pins : s.begin.pins = s.pins := rfl
@[simp] theorem State.begin_regs : s.begin.regs = s.regs := rfl
@[simp] theorem State.begin_time : s.begin.time = s.time := rfl
@[simp] theorem State.begin_pour : s.begin.pour = s.pour := rfl
@[simp] theorem State.begin_beam : s.begin.beam = s.beam := rfl
@[simp] theorem State.begin_pipe : s.begin.pipe = s.pipe := rfl
@[simp] theorem State.begin_temper : s.begin.temper = s.temper := rfl
@[simp] theorem State.begin_link : s.begin.link = s.link := rfl
@[simp] theorem State.begin_seg : s.begin.seg = s.seg := rfl
@[simp] theorem State.begin_cru : s.begin.cru = s.cru := rfl
@[simp] theorem State.begin_tun : s.begin.tun = s.tun := rfl
@[simp] theorem State.begin_mbx : s.begin.mbx = s.mbx := rfl
@[simp] theorem State.begin_cpu : s.begin.cpu = s.cpu := rfl
@[simp] theorem State.begin_fw : s.begin.fw = s.fw := rfl
@[simp] theorem State.begin_pwr : s.begin.pwr = s.pwr := rfl
@[simp] theorem State.begin_nv : s.begin.nv = s.nv := rfl
@[simp] theorem State.begin_cal : s.begin.cal = s.cal := rfl
@[simp] theorem State.begin_port0 : s.begin.port0 = s.port0 := rfl
@[simp] theorem State.begin_port1 : s.begin.port1 = s.port1 := rfl

/-! ### `State.emit` -/

@[simp] theorem State.emit_pending (o : Out) : (s.emit o).pending = s.pending := rfl
@[simp] theorem State.emit_free (o : Out) : (s.emit o).free = s.free := rfl
@[simp] theorem State.emit_fuses (o : Out) : (s.emit o).fuses = s.fuses := rfl
@[simp] theorem State.emit_pins (o : Out) : (s.emit o).pins = s.pins := rfl
@[simp] theorem State.emit_regs (o : Out) : (s.emit o).regs = s.regs := rfl
@[simp] theorem State.emit_time (o : Out) : (s.emit o).time = s.time := rfl
@[simp] theorem State.emit_pour (o : Out) : (s.emit o).pour = s.pour := rfl
@[simp] theorem State.emit_beam (o : Out) : (s.emit o).beam = s.beam := rfl
@[simp] theorem State.emit_pipe (o : Out) : (s.emit o).pipe = s.pipe := rfl
@[simp] theorem State.emit_temper (o : Out) : (s.emit o).temper = s.temper := rfl
@[simp] theorem State.emit_link (o : Out) : (s.emit o).link = s.link := rfl
@[simp] theorem State.emit_seg (o : Out) : (s.emit o).seg = s.seg := rfl
@[simp] theorem State.emit_cru (o : Out) : (s.emit o).cru = s.cru := rfl
@[simp] theorem State.emit_tun (o : Out) : (s.emit o).tun = s.tun := rfl
@[simp] theorem State.emit_mbx (o : Out) : (s.emit o).mbx = s.mbx := rfl
@[simp] theorem State.emit_cpu (o : Out) : (s.emit o).cpu = s.cpu := rfl
@[simp] theorem State.emit_fw (o : Out) : (s.emit o).fw = s.fw := rfl
@[simp] theorem State.emit_pwr (o : Out) : (s.emit o).pwr = s.pwr := rfl
@[simp] theorem State.emit_nv (o : Out) : (s.emit o).nv = s.nv := rfl
@[simp] theorem State.emit_cal (o : Out) : (s.emit o).cal = s.cal := rfl
@[simp] theorem State.emit_port0 (o : Out) : (s.emit o).port0 = s.port0 := rfl
@[simp] theorem State.emit_port1 (o : Out) : (s.emit o).port1 = s.port1 := rfl

/-! ### `State.wr` -/

@[simp] theorem State.wr_pending (a : Nat) (v : Word) : (s.wr a v).pending = s.pending := rfl
@[simp] theorem State.wr_out (a : Nat) (v : Word) : (s.wr a v).out = s.out := rfl
@[simp] theorem State.wr_free (a : Nat) (v : Word) : (s.wr a v).free = s.free := rfl
@[simp] theorem State.wr_fuses (a : Nat) (v : Word) : (s.wr a v).fuses = s.fuses := rfl
@[simp] theorem State.wr_pins (a : Nat) (v : Word) : (s.wr a v).pins = s.pins := rfl
@[simp] theorem State.wr_time (a : Nat) (v : Word) : (s.wr a v).time = s.time := rfl
@[simp] theorem State.wr_pour (a : Nat) (v : Word) : (s.wr a v).pour = s.pour := rfl
@[simp] theorem State.wr_beam (a : Nat) (v : Word) : (s.wr a v).beam = s.beam := rfl
@[simp] theorem State.wr_pipe (a : Nat) (v : Word) : (s.wr a v).pipe = s.pipe := rfl
@[simp] theorem State.wr_temper (a : Nat) (v : Word) : (s.wr a v).temper = s.temper := rfl
@[simp] theorem State.wr_link (a : Nat) (v : Word) : (s.wr a v).link = s.link := rfl
@[simp] theorem State.wr_seg (a : Nat) (v : Word) : (s.wr a v).seg = s.seg := rfl
@[simp] theorem State.wr_cru (a : Nat) (v : Word) : (s.wr a v).cru = s.cru := rfl
@[simp] theorem State.wr_tun (a : Nat) (v : Word) : (s.wr a v).tun = s.tun := rfl
@[simp] theorem State.wr_mbx (a : Nat) (v : Word) : (s.wr a v).mbx = s.mbx := rfl
@[simp] theorem State.wr_cpu (a : Nat) (v : Word) : (s.wr a v).cpu = s.cpu := rfl
@[simp] theorem State.wr_fw (a : Nat) (v : Word) : (s.wr a v).fw = s.fw := rfl
@[simp] theorem State.wr_pwr (a : Nat) (v : Word) : (s.wr a v).pwr = s.pwr := rfl
@[simp] theorem State.wr_nv (a : Nat) (v : Word) : (s.wr a v).nv = s.nv := rfl
@[simp] theorem State.wr_cal (a : Nat) (v : Word) : (s.wr a v).cal = s.cal := rfl
@[simp] theorem State.wr_port0 (a : Nat) (v : Word) : (s.wr a v).port0 = s.port0 := rfl
@[simp] theorem State.wr_port1 (a : Nat) (v : Word) : (s.wr a v).port1 = s.port1 := rfl

/-! ### `State.drawn` -/

@[simp] theorem State.drawn_pending : s.drawn.pending = s.pending := rfl
@[simp] theorem State.drawn_out : s.drawn.out = s.out := rfl
@[simp] theorem State.drawn_fuses : s.drawn.fuses = s.fuses := rfl
@[simp] theorem State.drawn_pins : s.drawn.pins = s.pins := rfl
@[simp] theorem State.drawn_regs : s.drawn.regs = s.regs := rfl
@[simp] theorem State.drawn_time : s.drawn.time = s.time := rfl
@[simp] theorem State.drawn_pour : s.drawn.pour = s.pour := rfl
@[simp] theorem State.drawn_beam : s.drawn.beam = s.beam := rfl
@[simp] theorem State.drawn_pipe : s.drawn.pipe = s.pipe := rfl
@[simp] theorem State.drawn_temper : s.drawn.temper = s.temper := rfl
@[simp] theorem State.drawn_link : s.drawn.link = s.link := rfl
@[simp] theorem State.drawn_seg : s.drawn.seg = s.seg := rfl
@[simp] theorem State.drawn_cru : s.drawn.cru = s.cru := rfl
@[simp] theorem State.drawn_tun : s.drawn.tun = s.tun := rfl
@[simp] theorem State.drawn_mbx : s.drawn.mbx = s.mbx := rfl
@[simp] theorem State.drawn_cpu : s.drawn.cpu = s.cpu := rfl
@[simp] theorem State.drawn_fw : s.drawn.fw = s.fw := rfl
@[simp] theorem State.drawn_pwr : s.drawn.pwr = s.pwr := rfl
@[simp] theorem State.drawn_nv : s.drawn.nv = s.nv := rfl
@[simp] theorem State.drawn_cal : s.drawn.cal = s.cal := rfl
@[simp] theorem State.drawn_port0 : s.drawn.port0 = s.port0 := rfl
@[simp] theorem State.drawn_port1 : s.drawn.port1 = s.port1 := rfl

/-! ### `State.cruPut` -/

@[simp] theorem State.cruPut_pending (a : Nat) (bs : List Byte) : (s.cruPut a bs).pending = s.pending := rfl
@[simp] theorem State.cruPut_out (a : Nat) (bs : List Byte) : (s.cruPut a bs).out = s.out := rfl
@[simp] theorem State.cruPut_free (a : Nat) (bs : List Byte) : (s.cruPut a bs).free = s.free := rfl
@[simp] theorem State.cruPut_fuses (a : Nat) (bs : List Byte) : (s.cruPut a bs).fuses = s.fuses := rfl
@[simp] theorem State.cruPut_pins (a : Nat) (bs : List Byte) : (s.cruPut a bs).pins = s.pins := rfl
@[simp] theorem State.cruPut_regs (a : Nat) (bs : List Byte) : (s.cruPut a bs).regs = s.regs := rfl
@[simp] theorem State.cruPut_time (a : Nat) (bs : List Byte) : (s.cruPut a bs).time = s.time := rfl
@[simp] theorem State.cruPut_pour (a : Nat) (bs : List Byte) : (s.cruPut a bs).pour = s.pour := rfl
@[simp] theorem State.cruPut_beam (a : Nat) (bs : List Byte) : (s.cruPut a bs).beam = s.beam := rfl
@[simp] theorem State.cruPut_pipe (a : Nat) (bs : List Byte) : (s.cruPut a bs).pipe = s.pipe := rfl
@[simp] theorem State.cruPut_temper (a : Nat) (bs : List Byte) : (s.cruPut a bs).temper = s.temper := rfl
@[simp] theorem State.cruPut_link (a : Nat) (bs : List Byte) : (s.cruPut a bs).link = s.link := rfl
@[simp] theorem State.cruPut_seg (a : Nat) (bs : List Byte) : (s.cruPut a bs).seg = s.seg := rfl
@[simp] theorem State.cruPut_tun (a : Nat) (bs : List Byte) : (s.cruPut a bs).tun = s.tun := rfl
@[simp] theorem State.cruPut_mbx (a : Nat) (bs : List Byte) : (s.cruPut a bs).mbx = s.mbx := rfl
@[simp] theorem State.cruPut_cpu (a : Nat) (bs : List Byte) : (s.cruPut a bs).cpu = s.cpu := rfl
@[simp] theorem State.cruPut_fw (a : Nat) (bs : List Byte) : (s.cruPut a bs).fw = s.fw := rfl
@[simp] theorem State.cruPut_pwr (a : Nat) (bs : List Byte) : (s.cruPut a bs).pwr = s.pwr := rfl
@[simp] theorem State.cruPut_nv (a : Nat) (bs : List Byte) : (s.cruPut a bs).nv = s.nv := rfl
@[simp] theorem State.cruPut_cal (a : Nat) (bs : List Byte) : (s.cruPut a bs).cal = s.cal := rfl
@[simp] theorem State.cruPut_port0 (a : Nat) (bs : List Byte) : (s.cruPut a bs).port0 = s.port0 := rfl
@[simp] theorem State.cruPut_port1 (a : Nat) (bs : List Byte) : (s.cruPut a bs).port1 = s.port1 := rfl

/-! ### `State.tunRawPut` and `State.tunPut`, which writes the array or the borrow buffer -/

@[simp] theorem State.tunRawPut_pending (w : Nat) (v : Word) : (s.tunRawPut w v).pending = s.pending := rfl
@[simp] theorem State.tunPut_pending (w : Nat) (v : Word) : (s.tunPut w v).pending = s.pending := by unfold State.tunPut; (repeat' split) <;> rfl
@[simp] theorem State.tunRawPut_out (w : Nat) (v : Word) : (s.tunRawPut w v).out = s.out := rfl
@[simp] theorem State.tunPut_out (w : Nat) (v : Word) : (s.tunPut w v).out = s.out := by unfold State.tunPut; (repeat' split) <;> rfl
@[simp] theorem State.tunRawPut_free (w : Nat) (v : Word) : (s.tunRawPut w v).free = s.free := rfl
@[simp] theorem State.tunPut_free (w : Nat) (v : Word) : (s.tunPut w v).free = s.free := by unfold State.tunPut; (repeat' split) <;> rfl
@[simp] theorem State.tunRawPut_fuses (w : Nat) (v : Word) : (s.tunRawPut w v).fuses = s.fuses := rfl
@[simp] theorem State.tunPut_fuses (w : Nat) (v : Word) : (s.tunPut w v).fuses = s.fuses := by unfold State.tunPut; (repeat' split) <;> rfl
@[simp] theorem State.tunRawPut_pins (w : Nat) (v : Word) : (s.tunRawPut w v).pins = s.pins := rfl
@[simp] theorem State.tunPut_pins (w : Nat) (v : Word) : (s.tunPut w v).pins = s.pins := by unfold State.tunPut; (repeat' split) <;> rfl
@[simp] theorem State.tunRawPut_regs (w : Nat) (v : Word) : (s.tunRawPut w v).regs = s.regs := rfl
@[simp] theorem State.tunPut_regs (w : Nat) (v : Word) : (s.tunPut w v).regs = s.regs := by unfold State.tunPut; (repeat' split) <;> rfl
@[simp] theorem State.tunRawPut_time (w : Nat) (v : Word) : (s.tunRawPut w v).time = s.time := rfl
@[simp] theorem State.tunPut_time (w : Nat) (v : Word) : (s.tunPut w v).time = s.time := by unfold State.tunPut; (repeat' split) <;> rfl
@[simp] theorem State.tunRawPut_pour (w : Nat) (v : Word) : (s.tunRawPut w v).pour = s.pour := rfl
@[simp] theorem State.tunPut_pour (w : Nat) (v : Word) : (s.tunPut w v).pour = s.pour := by unfold State.tunPut; (repeat' split) <;> rfl
@[simp] theorem State.tunRawPut_beam (w : Nat) (v : Word) : (s.tunRawPut w v).beam = s.beam := rfl
@[simp] theorem State.tunPut_beam (w : Nat) (v : Word) : (s.tunPut w v).beam = s.beam := by unfold State.tunPut; (repeat' split) <;> rfl
@[simp] theorem State.tunRawPut_pipe (w : Nat) (v : Word) : (s.tunRawPut w v).pipe = s.pipe := rfl
@[simp] theorem State.tunPut_pipe (w : Nat) (v : Word) : (s.tunPut w v).pipe = s.pipe := by unfold State.tunPut; (repeat' split) <;> rfl
@[simp] theorem State.tunRawPut_temper (w : Nat) (v : Word) : (s.tunRawPut w v).temper = s.temper := rfl
@[simp] theorem State.tunPut_temper (w : Nat) (v : Word) : (s.tunPut w v).temper = s.temper := by unfold State.tunPut; (repeat' split) <;> rfl
@[simp] theorem State.tunRawPut_link (w : Nat) (v : Word) : (s.tunRawPut w v).link = s.link := rfl
@[simp] theorem State.tunPut_link (w : Nat) (v : Word) : (s.tunPut w v).link = s.link := by unfold State.tunPut; (repeat' split) <;> rfl
@[simp] theorem State.tunRawPut_seg (w : Nat) (v : Word) : (s.tunRawPut w v).seg = s.seg := rfl
@[simp] theorem State.tunPut_seg (w : Nat) (v : Word) : (s.tunPut w v).seg = s.seg := by unfold State.tunPut; (repeat' split) <;> rfl
@[simp] theorem State.tunRawPut_cru (w : Nat) (v : Word) : (s.tunRawPut w v).cru = s.cru := rfl
@[simp] theorem State.tunPut_cru (w : Nat) (v : Word) : (s.tunPut w v).cru = s.cru := by unfold State.tunPut; (repeat' split) <;> rfl
@[simp] theorem State.tunRawPut_mbx (w : Nat) (v : Word) : (s.tunRawPut w v).mbx = s.mbx := rfl
@[simp] theorem State.tunPut_mbx (w : Nat) (v : Word) : (s.tunPut w v).mbx = s.mbx := by unfold State.tunPut; (repeat' split) <;> rfl
@[simp] theorem State.tunRawPut_cpu (w : Nat) (v : Word) : (s.tunRawPut w v).cpu = s.cpu := rfl
@[simp] theorem State.tunPut_cpu (w : Nat) (v : Word) : (s.tunPut w v).cpu = s.cpu := by unfold State.tunPut; (repeat' split) <;> rfl
@[simp] theorem State.tunRawPut_fw (w : Nat) (v : Word) : (s.tunRawPut w v).fw = s.fw := rfl
@[simp] theorem State.tunPut_fw (w : Nat) (v : Word) : (s.tunPut w v).fw = s.fw := by unfold State.tunPut; (repeat' split) <;> rfl
@[simp] theorem State.tunRawPut_pwr (w : Nat) (v : Word) : (s.tunRawPut w v).pwr = s.pwr := rfl
@[simp] theorem State.tunPut_pwr (w : Nat) (v : Word) : (s.tunPut w v).pwr = s.pwr := by unfold State.tunPut; (repeat' split) <;> rfl
@[simp] theorem State.tunRawPut_nv (w : Nat) (v : Word) : (s.tunRawPut w v).nv = s.nv := rfl
@[simp] theorem State.tunPut_nv (w : Nat) (v : Word) : (s.tunPut w v).nv = s.nv := by unfold State.tunPut; (repeat' split) <;> rfl
@[simp] theorem State.tunRawPut_cal (w : Nat) (v : Word) : (s.tunRawPut w v).cal = s.cal := rfl
@[simp] theorem State.tunPut_cal (w : Nat) (v : Word) : (s.tunPut w v).cal = s.cal := by unfold State.tunPut; (repeat' split) <;> rfl
@[simp] theorem State.tunRawPut_port0 (w : Nat) (v : Word) : (s.tunRawPut w v).port0 = s.port0 := rfl
@[simp] theorem State.tunPut_port0 (w : Nat) (v : Word) : (s.tunPut w v).port0 = s.port0 := by unfold State.tunPut; (repeat' split) <;> rfl
@[simp] theorem State.tunRawPut_port1 (w : Nat) (v : Word) : (s.tunRawPut w v).port1 = s.port1 := rfl
@[simp] theorem State.tunPut_port1 (w : Nat) (v : Word) : (s.tunPut w v).port1 = s.port1 := by unfold State.tunPut; (repeat' split) <;> rfl

/-! ### `State.nvPut` -/

@[simp] theorem State.nvPut_pending (a : Nat) (bs : List Byte) : (s.nvPut a bs).pending = s.pending := rfl
@[simp] theorem State.nvPut_out (a : Nat) (bs : List Byte) : (s.nvPut a bs).out = s.out := rfl
@[simp] theorem State.nvPut_free (a : Nat) (bs : List Byte) : (s.nvPut a bs).free = s.free := rfl
@[simp] theorem State.nvPut_fuses (a : Nat) (bs : List Byte) : (s.nvPut a bs).fuses = s.fuses := rfl
@[simp] theorem State.nvPut_pins (a : Nat) (bs : List Byte) : (s.nvPut a bs).pins = s.pins := rfl
@[simp] theorem State.nvPut_regs (a : Nat) (bs : List Byte) : (s.nvPut a bs).regs = s.regs := rfl
@[simp] theorem State.nvPut_time (a : Nat) (bs : List Byte) : (s.nvPut a bs).time = s.time := rfl
@[simp] theorem State.nvPut_pour (a : Nat) (bs : List Byte) : (s.nvPut a bs).pour = s.pour := rfl
@[simp] theorem State.nvPut_beam (a : Nat) (bs : List Byte) : (s.nvPut a bs).beam = s.beam := rfl
@[simp] theorem State.nvPut_pipe (a : Nat) (bs : List Byte) : (s.nvPut a bs).pipe = s.pipe := rfl
@[simp] theorem State.nvPut_temper (a : Nat) (bs : List Byte) : (s.nvPut a bs).temper = s.temper := rfl
@[simp] theorem State.nvPut_link (a : Nat) (bs : List Byte) : (s.nvPut a bs).link = s.link := rfl
@[simp] theorem State.nvPut_seg (a : Nat) (bs : List Byte) : (s.nvPut a bs).seg = s.seg := rfl
@[simp] theorem State.nvPut_cru (a : Nat) (bs : List Byte) : (s.nvPut a bs).cru = s.cru := rfl
@[simp] theorem State.nvPut_tun (a : Nat) (bs : List Byte) : (s.nvPut a bs).tun = s.tun := rfl
@[simp] theorem State.nvPut_mbx (a : Nat) (bs : List Byte) : (s.nvPut a bs).mbx = s.mbx := rfl
@[simp] theorem State.nvPut_cpu (a : Nat) (bs : List Byte) : (s.nvPut a bs).cpu = s.cpu := rfl
@[simp] theorem State.nvPut_fw (a : Nat) (bs : List Byte) : (s.nvPut a bs).fw = s.fw := rfl
@[simp] theorem State.nvPut_pwr (a : Nat) (bs : List Byte) : (s.nvPut a bs).pwr = s.pwr := rfl
@[simp] theorem State.nvPut_cal (a : Nat) (bs : List Byte) : (s.nvPut a bs).cal = s.cal := rfl
@[simp] theorem State.nvPut_port0 (a : Nat) (bs : List Byte) : (s.nvPut a bs).port0 = s.port0 := rfl
@[simp] theorem State.nvPut_port1 (a : Nat) (bs : List Byte) : (s.nvPut a bs).port1 = s.port1 := rfl

/-! ### `State.retPut` -/

@[simp] theorem State.retPut_pending (a : Nat) (bs : List Byte) : (s.retPut a bs).pending = s.pending := rfl
@[simp] theorem State.retPut_out (a : Nat) (bs : List Byte) : (s.retPut a bs).out = s.out := rfl
@[simp] theorem State.retPut_free (a : Nat) (bs : List Byte) : (s.retPut a bs).free = s.free := rfl
@[simp] theorem State.retPut_fuses (a : Nat) (bs : List Byte) : (s.retPut a bs).fuses = s.fuses := rfl
@[simp] theorem State.retPut_pins (a : Nat) (bs : List Byte) : (s.retPut a bs).pins = s.pins := rfl
@[simp] theorem State.retPut_regs (a : Nat) (bs : List Byte) : (s.retPut a bs).regs = s.regs := rfl
@[simp] theorem State.retPut_time (a : Nat) (bs : List Byte) : (s.retPut a bs).time = s.time := rfl
@[simp] theorem State.retPut_pour (a : Nat) (bs : List Byte) : (s.retPut a bs).pour = s.pour := rfl
@[simp] theorem State.retPut_beam (a : Nat) (bs : List Byte) : (s.retPut a bs).beam = s.beam := rfl
@[simp] theorem State.retPut_pipe (a : Nat) (bs : List Byte) : (s.retPut a bs).pipe = s.pipe := rfl
@[simp] theorem State.retPut_temper (a : Nat) (bs : List Byte) : (s.retPut a bs).temper = s.temper := rfl
@[simp] theorem State.retPut_link (a : Nat) (bs : List Byte) : (s.retPut a bs).link = s.link := rfl
@[simp] theorem State.retPut_seg (a : Nat) (bs : List Byte) : (s.retPut a bs).seg = s.seg := rfl
@[simp] theorem State.retPut_cru (a : Nat) (bs : List Byte) : (s.retPut a bs).cru = s.cru := rfl
@[simp] theorem State.retPut_tun (a : Nat) (bs : List Byte) : (s.retPut a bs).tun = s.tun := rfl
@[simp] theorem State.retPut_mbx (a : Nat) (bs : List Byte) : (s.retPut a bs).mbx = s.mbx := rfl
@[simp] theorem State.retPut_cpu (a : Nat) (bs : List Byte) : (s.retPut a bs).cpu = s.cpu := rfl
@[simp] theorem State.retPut_fw (a : Nat) (bs : List Byte) : (s.retPut a bs).fw = s.fw := rfl
@[simp] theorem State.retPut_nv (a : Nat) (bs : List Byte) : (s.retPut a bs).nv = s.nv := rfl
@[simp] theorem State.retPut_cal (a : Nat) (bs : List Byte) : (s.retPut a bs).cal = s.cal := rfl
@[simp] theorem State.retPut_port0 (a : Nat) (bs : List Byte) : (s.retPut a bs).port0 = s.port0 := rfl
@[simp] theorem State.retPut_port1 (a : Nat) (bs : List Byte) : (s.retPut a bs).port1 = s.port1 := rfl

/-! ### `State.setF` -/

@[simp] theorem State.setF_pending (a lo len v : Nat) : (s.setF a lo len v).pending = s.pending := rfl
@[simp] theorem State.setF_out (a lo len v : Nat) : (s.setF a lo len v).out = s.out := rfl
@[simp] theorem State.setF_free (a lo len v : Nat) : (s.setF a lo len v).free = s.free := rfl
@[simp] theorem State.setF_fuses (a lo len v : Nat) : (s.setF a lo len v).fuses = s.fuses := rfl
@[simp] theorem State.setF_pins (a lo len v : Nat) : (s.setF a lo len v).pins = s.pins := rfl
@[simp] theorem State.setF_time (a lo len v : Nat) : (s.setF a lo len v).time = s.time := rfl
@[simp] theorem State.setF_pour (a lo len v : Nat) : (s.setF a lo len v).pour = s.pour := rfl
@[simp] theorem State.setF_beam (a lo len v : Nat) : (s.setF a lo len v).beam = s.beam := rfl
@[simp] theorem State.setF_pipe (a lo len v : Nat) : (s.setF a lo len v).pipe = s.pipe := rfl
@[simp] theorem State.setF_temper (a lo len v : Nat) : (s.setF a lo len v).temper = s.temper := rfl
@[simp] theorem State.setF_link (a lo len v : Nat) : (s.setF a lo len v).link = s.link := rfl
@[simp] theorem State.setF_seg (a lo len v : Nat) : (s.setF a lo len v).seg = s.seg := rfl
@[simp] theorem State.setF_cru (a lo len v : Nat) : (s.setF a lo len v).cru = s.cru := rfl
@[simp] theorem State.setF_tun (a lo len v : Nat) : (s.setF a lo len v).tun = s.tun := rfl
@[simp] theorem State.setF_mbx (a lo len v : Nat) : (s.setF a lo len v).mbx = s.mbx := rfl
@[simp] theorem State.setF_cpu (a lo len v : Nat) : (s.setF a lo len v).cpu = s.cpu := rfl
@[simp] theorem State.setF_fw (a lo len v : Nat) : (s.setF a lo len v).fw = s.fw := rfl
@[simp] theorem State.setF_pwr (a lo len v : Nat) : (s.setF a lo len v).pwr = s.pwr := rfl
@[simp] theorem State.setF_nv (a lo len v : Nat) : (s.setF a lo len v).nv = s.nv := rfl
@[simp] theorem State.setF_cal (a lo len v : Nat) : (s.setF a lo len v).cal = s.cal := rfl
@[simp] theorem State.setF_port0 (a lo len v : Nat) : (s.setF a lo len v).port0 = s.port0 := rfl
@[simp] theorem State.setF_port1 (a lo len v : Nat) : (s.setF a lo len v).port1 = s.port1 := rfl

/-! ### `State.setBit` -/

@[simp] theorem State.setBit_pending (a i : Nat) (b : Bool) : (s.setBit a i b).pending = s.pending := rfl
@[simp] theorem State.setBit_out (a i : Nat) (b : Bool) : (s.setBit a i b).out = s.out := rfl
@[simp] theorem State.setBit_free (a i : Nat) (b : Bool) : (s.setBit a i b).free = s.free := rfl
@[simp] theorem State.setBit_fuses (a i : Nat) (b : Bool) : (s.setBit a i b).fuses = s.fuses := rfl
@[simp] theorem State.setBit_pins (a i : Nat) (b : Bool) : (s.setBit a i b).pins = s.pins := rfl
@[simp] theorem State.setBit_time (a i : Nat) (b : Bool) : (s.setBit a i b).time = s.time := rfl
@[simp] theorem State.setBit_pour (a i : Nat) (b : Bool) : (s.setBit a i b).pour = s.pour := rfl
@[simp] theorem State.setBit_beam (a i : Nat) (b : Bool) : (s.setBit a i b).beam = s.beam := rfl
@[simp] theorem State.setBit_pipe (a i : Nat) (b : Bool) : (s.setBit a i b).pipe = s.pipe := rfl
@[simp] theorem State.setBit_temper (a i : Nat) (b : Bool) : (s.setBit a i b).temper = s.temper := rfl
@[simp] theorem State.setBit_link (a i : Nat) (b : Bool) : (s.setBit a i b).link = s.link := rfl
@[simp] theorem State.setBit_seg (a i : Nat) (b : Bool) : (s.setBit a i b).seg = s.seg := rfl
@[simp] theorem State.setBit_cru (a i : Nat) (b : Bool) : (s.setBit a i b).cru = s.cru := rfl
@[simp] theorem State.setBit_tun (a i : Nat) (b : Bool) : (s.setBit a i b).tun = s.tun := rfl
@[simp] theorem State.setBit_mbx (a i : Nat) (b : Bool) : (s.setBit a i b).mbx = s.mbx := rfl
@[simp] theorem State.setBit_cpu (a i : Nat) (b : Bool) : (s.setBit a i b).cpu = s.cpu := rfl
@[simp] theorem State.setBit_fw (a i : Nat) (b : Bool) : (s.setBit a i b).fw = s.fw := rfl
@[simp] theorem State.setBit_pwr (a i : Nat) (b : Bool) : (s.setBit a i b).pwr = s.pwr := rfl
@[simp] theorem State.setBit_nv (a i : Nat) (b : Bool) : (s.setBit a i b).nv = s.nv := rfl
@[simp] theorem State.setBit_cal (a i : Nat) (b : Bool) : (s.setBit a i b).cal = s.cal := rfl
@[simp] theorem State.setBit_port0 (a i : Nat) (b : Bool) : (s.setBit a i b).port0 = s.port0 := rfl
@[simp] theorem State.setBit_port1 (a i : Nat) (b : Bool) : (s.setBit a i b).port1 = s.port1 := rfl

/-! ### `State.bump` -/

@[simp] theorem State.bump_pending (a lo len n : Nat) : (s.bump a lo len n).pending = s.pending := rfl
@[simp] theorem State.bump_out (a lo len n : Nat) : (s.bump a lo len n).out = s.out := rfl
@[simp] theorem State.bump_free (a lo len n : Nat) : (s.bump a lo len n).free = s.free := rfl
@[simp] theorem State.bump_fuses (a lo len n : Nat) : (s.bump a lo len n).fuses = s.fuses := rfl
@[simp] theorem State.bump_pins (a lo len n : Nat) : (s.bump a lo len n).pins = s.pins := rfl
@[simp] theorem State.bump_time (a lo len n : Nat) : (s.bump a lo len n).time = s.time := rfl
@[simp] theorem State.bump_pour (a lo len n : Nat) : (s.bump a lo len n).pour = s.pour := rfl
@[simp] theorem State.bump_beam (a lo len n : Nat) : (s.bump a lo len n).beam = s.beam := rfl
@[simp] theorem State.bump_pipe (a lo len n : Nat) : (s.bump a lo len n).pipe = s.pipe := rfl
@[simp] theorem State.bump_temper (a lo len n : Nat) : (s.bump a lo len n).temper = s.temper := rfl
@[simp] theorem State.bump_link (a lo len n : Nat) : (s.bump a lo len n).link = s.link := rfl
@[simp] theorem State.bump_seg (a lo len n : Nat) : (s.bump a lo len n).seg = s.seg := rfl
@[simp] theorem State.bump_cru (a lo len n : Nat) : (s.bump a lo len n).cru = s.cru := rfl
@[simp] theorem State.bump_tun (a lo len n : Nat) : (s.bump a lo len n).tun = s.tun := rfl
@[simp] theorem State.bump_mbx (a lo len n : Nat) : (s.bump a lo len n).mbx = s.mbx := rfl
@[simp] theorem State.bump_cpu (a lo len n : Nat) : (s.bump a lo len n).cpu = s.cpu := rfl
@[simp] theorem State.bump_fw (a lo len n : Nat) : (s.bump a lo len n).fw = s.fw := rfl
@[simp] theorem State.bump_pwr (a lo len n : Nat) : (s.bump a lo len n).pwr = s.pwr := rfl
@[simp] theorem State.bump_nv (a lo len n : Nat) : (s.bump a lo len n).nv = s.nv := rfl
@[simp] theorem State.bump_cal (a lo len n : Nat) : (s.bump a lo len n).cal = s.cal := rfl
@[simp] theorem State.bump_port0 (a lo len n : Nat) : (s.bump a lo len n).port0 = s.port0 := rfl
@[simp] theorem State.bump_port1 (a lo len n : Nat) : (s.bump a lo len n).port1 = s.port1 := rfl

/-! ### `State.dbSet` -/

@[simp] theorem State.dbSet_pending (t : Nat) (b : Word) : (s.dbSet t b).pending = s.pending := rfl
@[simp] theorem State.dbSet_out (t : Nat) (b : Word) : (s.dbSet t b).out = s.out := rfl
@[simp] theorem State.dbSet_free (t : Nat) (b : Word) : (s.dbSet t b).free = s.free := rfl
@[simp] theorem State.dbSet_fuses (t : Nat) (b : Word) : (s.dbSet t b).fuses = s.fuses := rfl
@[simp] theorem State.dbSet_pins (t : Nat) (b : Word) : (s.dbSet t b).pins = s.pins := rfl
@[simp] theorem State.dbSet_time (t : Nat) (b : Word) : (s.dbSet t b).time = s.time := rfl
@[simp] theorem State.dbSet_pour (t : Nat) (b : Word) : (s.dbSet t b).pour = s.pour := rfl
@[simp] theorem State.dbSet_beam (t : Nat) (b : Word) : (s.dbSet t b).beam = s.beam := rfl
@[simp] theorem State.dbSet_pipe (t : Nat) (b : Word) : (s.dbSet t b).pipe = s.pipe := rfl
@[simp] theorem State.dbSet_temper (t : Nat) (b : Word) : (s.dbSet t b).temper = s.temper := rfl
@[simp] theorem State.dbSet_link (t : Nat) (b : Word) : (s.dbSet t b).link = s.link := rfl
@[simp] theorem State.dbSet_seg (t : Nat) (b : Word) : (s.dbSet t b).seg = s.seg := rfl
@[simp] theorem State.dbSet_cru (t : Nat) (b : Word) : (s.dbSet t b).cru = s.cru := rfl
@[simp] theorem State.dbSet_tun (t : Nat) (b : Word) : (s.dbSet t b).tun = s.tun := rfl
@[simp] theorem State.dbSet_mbx (t : Nat) (b : Word) : (s.dbSet t b).mbx = s.mbx := rfl
@[simp] theorem State.dbSet_cpu (t : Nat) (b : Word) : (s.dbSet t b).cpu = s.cpu := rfl
@[simp] theorem State.dbSet_fw (t : Nat) (b : Word) : (s.dbSet t b).fw = s.fw := rfl
@[simp] theorem State.dbSet_pwr (t : Nat) (b : Word) : (s.dbSet t b).pwr = s.pwr := rfl
@[simp] theorem State.dbSet_nv (t : Nat) (b : Word) : (s.dbSet t b).nv = s.nv := rfl
@[simp] theorem State.dbSet_cal (t : Nat) (b : Word) : (s.dbSet t b).cal = s.cal := rfl
@[simp] theorem State.dbSet_port0 (t : Nat) (b : Word) : (s.dbSet t b).port0 = s.port0 := rfl
@[simp] theorem State.dbSet_port1 (t : Nat) (b : Word) : (s.dbSet t b).port1 = s.port1 := rfl

/-! ### `State.dbClear` -/

@[simp] theorem State.dbClear_pending (t : Nat) (b : Word) : (s.dbClear t b).pending = s.pending := rfl
@[simp] theorem State.dbClear_out (t : Nat) (b : Word) : (s.dbClear t b).out = s.out := rfl
@[simp] theorem State.dbClear_free (t : Nat) (b : Word) : (s.dbClear t b).free = s.free := rfl
@[simp] theorem State.dbClear_fuses (t : Nat) (b : Word) : (s.dbClear t b).fuses = s.fuses := rfl
@[simp] theorem State.dbClear_pins (t : Nat) (b : Word) : (s.dbClear t b).pins = s.pins := rfl
@[simp] theorem State.dbClear_time (t : Nat) (b : Word) : (s.dbClear t b).time = s.time := rfl
@[simp] theorem State.dbClear_pour (t : Nat) (b : Word) : (s.dbClear t b).pour = s.pour := rfl
@[simp] theorem State.dbClear_beam (t : Nat) (b : Word) : (s.dbClear t b).beam = s.beam := rfl
@[simp] theorem State.dbClear_pipe (t : Nat) (b : Word) : (s.dbClear t b).pipe = s.pipe := rfl
@[simp] theorem State.dbClear_temper (t : Nat) (b : Word) : (s.dbClear t b).temper = s.temper := rfl
@[simp] theorem State.dbClear_link (t : Nat) (b : Word) : (s.dbClear t b).link = s.link := rfl
@[simp] theorem State.dbClear_seg (t : Nat) (b : Word) : (s.dbClear t b).seg = s.seg := rfl
@[simp] theorem State.dbClear_cru (t : Nat) (b : Word) : (s.dbClear t b).cru = s.cru := rfl
@[simp] theorem State.dbClear_tun (t : Nat) (b : Word) : (s.dbClear t b).tun = s.tun := rfl
@[simp] theorem State.dbClear_mbx (t : Nat) (b : Word) : (s.dbClear t b).mbx = s.mbx := rfl
@[simp] theorem State.dbClear_cpu (t : Nat) (b : Word) : (s.dbClear t b).cpu = s.cpu := rfl
@[simp] theorem State.dbClear_fw (t : Nat) (b : Word) : (s.dbClear t b).fw = s.fw := rfl
@[simp] theorem State.dbClear_pwr (t : Nat) (b : Word) : (s.dbClear t b).pwr = s.pwr := rfl
@[simp] theorem State.dbClear_nv (t : Nat) (b : Word) : (s.dbClear t b).nv = s.nv := rfl
@[simp] theorem State.dbClear_cal (t : Nat) (b : Word) : (s.dbClear t b).cal = s.cal := rfl
@[simp] theorem State.dbClear_port0 (t : Nat) (b : Word) : (s.dbClear t b).port0 = s.port0 := rfl
@[simp] theorem State.dbClear_port1 (t : Nat) (b : Word) : (s.dbClear t b).port1 = s.port1 := rfl

/-! ### `State.ring` -/

@[simp] theorem State.ring_pending (n : Nat) : (s.ring n).pending = s.pending := rfl
@[simp] theorem State.ring_out (n : Nat) : (s.ring n).out = s.out := rfl
@[simp] theorem State.ring_free (n : Nat) : (s.ring n).free = s.free := rfl
@[simp] theorem State.ring_fuses (n : Nat) : (s.ring n).fuses = s.fuses := rfl
@[simp] theorem State.ring_pins (n : Nat) : (s.ring n).pins = s.pins := rfl
@[simp] theorem State.ring_time (n : Nat) : (s.ring n).time = s.time := rfl
@[simp] theorem State.ring_pour (n : Nat) : (s.ring n).pour = s.pour := rfl
@[simp] theorem State.ring_beam (n : Nat) : (s.ring n).beam = s.beam := rfl
@[simp] theorem State.ring_pipe (n : Nat) : (s.ring n).pipe = s.pipe := rfl
@[simp] theorem State.ring_temper (n : Nat) : (s.ring n).temper = s.temper := rfl
@[simp] theorem State.ring_link (n : Nat) : (s.ring n).link = s.link := rfl
@[simp] theorem State.ring_seg (n : Nat) : (s.ring n).seg = s.seg := rfl
@[simp] theorem State.ring_cru (n : Nat) : (s.ring n).cru = s.cru := rfl
@[simp] theorem State.ring_tun (n : Nat) : (s.ring n).tun = s.tun := rfl
@[simp] theorem State.ring_mbx (n : Nat) : (s.ring n).mbx = s.mbx := rfl
@[simp] theorem State.ring_cpu (n : Nat) : (s.ring n).cpu = s.cpu := rfl
@[simp] theorem State.ring_fw (n : Nat) : (s.ring n).fw = s.fw := rfl
@[simp] theorem State.ring_pwr (n : Nat) : (s.ring n).pwr = s.pwr := rfl
@[simp] theorem State.ring_nv (n : Nat) : (s.ring n).nv = s.nv := rfl
@[simp] theorem State.ring_cal (n : Nat) : (s.ring n).cal = s.cal := rfl
@[simp] theorem State.ring_port0 (n : Nat) : (s.ring n).port0 = s.port0 := rfl
@[simp] theorem State.ring_port1 (n : Nat) : (s.ring n).port1 = s.port1 := rfl

@[simp] theorem State.begin_out : s.begin.out = [] := rfl
@[simp] theorem State.emit_out (o : Out) : (s.emit o).out = s.out ++ [o] := rfl
@[simp] theorem State.drawn_free : s.drawn.free = s.free + 1 := rfl
@[simp] theorem State.begin_rd (a : Nat) : s.begin.rd a = s.rd a := rfl
@[simp] theorem State.emit_rd (o : Out) (a : Nat) : (s.emit o).rd a = s.rd a := rfl
@[simp] theorem State.drawn_rd (a : Nat) : s.drawn.rd a = s.rd a := rfl
@[simp] theorem State.cruPut_rd (c : Nat) (bs : List Byte) (a : Nat) : (s.cruPut c bs).rd a = s.rd a := rfl
@[simp] theorem State.tunRawPut_rd (w : Nat) (v : Word) (a : Nat) : (s.tunRawPut w v).rd a = s.rd a := rfl
@[simp] theorem State.tunPut_rd (w : Nat) (v : Word) (a : Nat) : (s.tunPut w v).rd a = s.rd a := by unfold State.tunPut; (repeat' split) <;> rfl
@[simp] theorem State.nvPut_rd (c : Nat) (bs : List Byte) (a : Nat) : (s.nvPut c bs).rd a = s.rd a := rfl
@[simp] theorem State.retPut_rd (c : Nat) (bs : List Byte) (a : Nat) : (s.retPut c bs).rd a = s.rd a := rfl
@[simp] theorem State.part_begin : s.begin.part = s.part := rfl
@[simp] theorem State.part_emit (o : Out) : (s.emit o).part = s.part := rfl
@[simp] theorem State.part_wr (a : Nat) (v : Word) : (s.wr a v).part = s.part := rfl
@[simp] theorem State.part_setF (a lo len v : Nat) : (s.setF a lo len v).part = s.part := rfl
@[simp] theorem State.part_drawn : s.drawn.part = s.part := rfl
@[simp] theorem State.when_true (f : State → State) : s.when true f = f s := rfl
@[simp] theorem State.when_false (f : State → State) : s.when false f = s := rfl

/-- A register reads as what was written into it, and every other as before. -/
theorem State.wr_rd (a b : Nat) (v : Word) : (s.wr a v).rd b = if b = a then v else s.rd b := by
  simp only [State.rd, State.wr, State.part]
  exact tget_tset _ _ _ _ _

/-- A register reads as what was written into it. -/
@[simp] theorem State.wr_rd_self (a : Nat) (v : Word) : (s.wr a v).rd a = v := by simp [State.wr_rd]

/-- Another register reads as before. -/
theorem State.wr_rd_ne {a b : Nat} (v : Word) (h : b ≠ a) : (s.wr a v).rd b = s.rd b := by simp [State.wr_rd, h]

/-- A field write touches its own register only. -/
theorem State.setF_rd_ne {a b : Nat} (lo len v : Nat) (h : b ≠ a) : (s.setF a lo len v).rd b = s.rd b :=
  s.wr_rd_ne _ h

/-- The register after a field write. -/
@[simp] theorem State.setF_rd_self (a lo len v : Nat) : (s.setF a lo len v).rd a = setFld (s.rd a) lo len v :=
  s.wr_rd_self _ _

end Sys2Proof.Machine
end

