-- ==== Sys2Proof/Laws/Memory.lean ====
section
/-! SUPPORT. The laws of the memories: a read after a write, what a write leaves, and that every memory operation
keeps the canonical form. -/

namespace Sys2Proof.Machine

open Sys2Proof

/-- A byte string written reads back; every other byte reads as before. -/
theorem tget_putBytes (d : Nat → Byte) (t : Tab Byte) (a k : Nat) (bs : List Byte) :
    tget d (putBytes d t a bs) k =
      if a ≤ k ∧ k < a + bs.length then bs.getD (k - a) 0#8 else tget d t k := by
  induction bs generalizing t a with
  | nil => simp only [putBytes, List.length_nil]; rw [if_neg (by omega)]
  | cons b r ih =>
    simp only [putBytes, ih, List.length_cons, tget_tset]
    by_cases h : k = a
    · subst h
      rw [if_neg (by omega), if_pos rfl, if_pos (by omega)]
      simp
    · by_cases h2 : a + 1 ≤ k ∧ k < a + 1 + r.length
      · rw [if_pos h2, if_pos (by omega)]
        obtain ⟨j, hj⟩ : ∃ j, k - a = j + 1 := ⟨k - a - 1, by omega⟩
        rw [hj, List.getD_cons_succ]
        congr 1; omega
      · rw [if_neg h2, if_neg h, if_neg (by omega)]

/-- A byte outside the written ones reads as before. -/
theorem tget_putBytes_outside (d : Nat → Byte) (t : Tab Byte) {a k : Nat} {bs : List Byte}
    (h : k < a ∨ a + bs.length ≤ k) : tget d (putBytes d t a bs) k = tget d t k := by
  rw [tget_putBytes, if_neg (by omega)]

/-- Writing bytes keeps the canonical form. -/
theorem twf_putBytes (d : Nat → Byte) {t : Tab Byte} (a : Nat) (bs : List Byte) (h : twf d t = true) :
    twf d (putBytes d t a bs) = true := by
  induction bs generalizing t a with
  | nil => exact h
  | cons b r ih => exact ih _ (twf_tset d a b h)

/-- The parts of `Memory.wf`. -/
theorem Memory.wf_iff (s : State) : Memory.wf s = true ↔
    twf (resetValue s.part) s.regs = true ∧ twf (cruInit s.part) s.cru.cells = true ∧
      twf tunInit s.tun.cells = true ∧ twf zeroInit s.nv.cells = true ∧ twf zeroInit s.pwr.retMem = true ∧
      twf flashInit s.cpu.flash = true := by
  simp [Memory.wf, and_assoc]

/-- The canonical form rests on the variant, the registers and the memories alone. -/
theorem Memory.wf_congr {s t : State} (hp : t.fuses.part = s.fuses.part) (hr : t.regs = s.regs)
    (hc : t.cru.cells = s.cru.cells) (ht : t.tun.cells = s.tun.cells) (hn : t.nv.cells = s.nv.cells)
    (hm : t.pwr.retMem = s.pwr.retMem) (hf : t.cpu.flash = s.cpu.flash) : Memory.wf t = Memory.wf s := by
  simp [Memory.wf, State.part, hp, hr, hc, ht, hn, hm, hf]

/-- A register write keeps the canonical form. -/
theorem Memory.wf_wr {s : State} (a : Nat) (v : Word) (h : Memory.wf s = true) : Memory.wf (s.wr a v) = true := by
  rw [Memory.wf_iff] at h ⊢
  exact ⟨twf_tset _ _ _ h.1, h.2⟩

theorem Memory.wf_setF {s : State} (a lo len v : Nat) (h : Memory.wf s = true) : Memory.wf (s.setF a lo len v) = true :=
  Memory.wf_wr _ _ h

theorem Memory.wf_setBit {s : State} (a i : Nat) (b : Bool) (h : Memory.wf s = true) : Memory.wf (s.setBit a i b) = true :=
  Memory.wf_wr _ _ h

theorem Memory.wf_bump {s : State} (a lo len n : Nat) (h : Memory.wf s = true) : Memory.wf (s.bump a lo len n) = true :=
  Memory.wf_wr _ _ h

/-- A Crucible write keeps it. -/
theorem Memory.wf_cruPut {s : State} (a : Nat) (bs : List Byte) (h : Memory.wf s = true) : Memory.wf (s.cruPut a bs) = true := by
  rw [Memory.wf_iff] at h ⊢
  exact ⟨h.1, twf_putBytes _ _ _ h.2.1, h.2.2⟩

/-- A write of a Tundish word keeps it. -/
theorem Memory.wf_tunRawPut {s : State} (w : Nat) (v : Word) (h : Memory.wf s = true) : Memory.wf (s.tunRawPut w v) = true := by
  rw [Memory.wf_iff] at h ⊢
  exact ⟨h.1, h.2.1, twf_putBytes _ _ _ h.2.2.1, h.2.2.2⟩

/-- So does a master's write, which may go to the borrow buffer. -/
theorem Memory.wf_tunPut {s : State} (w : Nat) (v : Word) (h : Memory.wf s = true) : Memory.wf (s.tunPut w v) = true := by
  unfold State.tunPut
  split
  · split
    · exact h
    · exact Memory.wf_tunRawPut _ _ h
  · exact Memory.wf_tunRawPut _ _ h

/-- A write into the retention memory keeps it. -/
theorem Memory.wf_retPut {s : State} (a : Nat) (bs : List Byte) (h : Memory.wf s = true) : Memory.wf (s.retPut a bs) = true := by
  rw [Memory.wf_iff] at h ⊢
  exact ⟨h.1, h.2.1, h.2.2.1, h.2.2.2.1, twf_putBytes _ _ _ h.2.2.2.2.1, h.2.2.2.2.2⟩

/-- An NV write keeps it. -/
theorem Memory.wf_nvPut {s : State} (a : Nat) (bs : List Byte) (h : Memory.wf s = true) : Memory.wf (s.nvPut a bs) = true := by
  rw [Memory.wf_iff] at h ⊢
  exact ⟨h.1, h.2.1, h.2.2.1, twf_putBytes _ _ _ h.2.2.2.1, h.2.2.2.2⟩

/-- A Crucible byte after a write. -/
theorem State.cruPut_byte (s : State) (a k : Nat) (bs : List Byte) :
    (s.cruPut a bs).cruByte k = if a ≤ k ∧ k < a + bs.length then bs.getD (k - a) 0#8 else s.cruByte k :=
  tget_putBytes _ _ _ _ _

/-- An NV byte after a write. -/
theorem State.nvPut_byte (s : State) (a k : Nat) (bs : List Byte) :
    tget zeroInit (s.nvPut a bs).nv.cells k =
      if a ≤ k ∧ k < a + bs.length then bs.getD (k - a) 0#8 else tget zeroInit s.nv.cells k :=
  tget_putBytes _ _ _ _ _

/-- A conditional update keeps it where the update does. -/
theorem Memory.wf_when {s : State} {c : Bool} {f : State → State} (hf : Memory.wf s = true → Memory.wf (f s) = true)
    (h : Memory.wf s = true) : Memory.wf (s.when c f) = true := by
  cases c
  · exact h
  · exact hf h

/-- A fold keeps it where its step does. -/
theorem Memory.wf_foldl {α : Type} {f : State → α → State} (hf : ∀ s x, Memory.wf s = true → Memory.wf (f s x) = true)
    (l : List α) {s : State} (h : Memory.wf s = true) : Memory.wf (l.foldl f s) = true := by
  induction l generalizing s with
  | nil => exact h
  | cons x r ih => exact ih (hf s x h)

/-- A record put into the retention tail keeps it. -/
theorem Memory.wf_logPush {s : State} (r : List Word) (h : Memory.wf s = true) : Memory.wf (s.logPush r) = true := by
  simp only [State.logPush]
  split
  · exact Memory.wf_setF _ _ _ _ (Memory.wf_retPut _ _ h)
  · exact h

/-- Raising an event keeps it. -/
theorem Memory.wf_raiseD {s : State} (n : Nat) (d : Word) (h : Memory.wf s = true) : Memory.wf (s.raiseD n d) = true := by
  unfold State.raiseD State.logLatch
  split
  · exact Memory.wf_when (Memory.wf_logPush _) (Memory.wf_when (Memory.wf_wr _ _) (Memory.wf_setBit _ _ _ (Memory.wf_wr _ _ h)))
  · exact h

end Sys2Proof.Machine
end

