-- ==== Sys2Proof/Laws/Word.lean ====
section
/-! SUPPORT. Fields of a word: what replacing one field leaves in it and in the others. -/

namespace Sys2Proof

/-- Bit `i` of a word with one field replaced. -/
theorem setFld_testBit (w : Word) {lo len : Nat} (v i : Nat) (hl : lo + len ≤ 32) :
    (setFld w lo len v).toNat.testBit i =
      if i < lo then w.toNat.testBit i else if i < lo + len then v.testBit (i - lo) else w.toNat.testBit i := by
  have e : w.toNat % 2 ^ lo + (v % 2 ^ len) * 2 ^ lo + w.toNat / 2 ^ (lo + len) * 2 ^ (lo + len)
      = 2 ^ lo * (2 ^ len * (w.toNat / 2 ^ (lo + len)) + v % 2 ^ len) + w.toNat % 2 ^ lo := by
    rw [pow_add]; ring
  have b1 : w.toNat % 2 ^ lo < 2 ^ lo := Nat.mod_lt _ (by positivity)
  have b2 : v % 2 ^ len < 2 ^ len := Nat.mod_lt _ (by positivity)
  have t : (w.toNat % 2 ^ lo + (v % 2 ^ len) * 2 ^ lo + w.toNat / 2 ^ (lo + len) * 2 ^ (lo + len)).testBit i =
      if i < lo then w.toNat.testBit i else if i < lo + len then v.testBit (i - lo) else w.toNat.testBit i := by
    rw [e, Nat.testBit_two_pow_mul_add _ b1]
    split
    · simp [Nat.testBit_mod_two_pow, *]
    · rw [Nat.testBit_two_pow_mul_add _ b2]
      split
      · rw [if_pos (by omega)]; simp [Nat.testBit_mod_two_pow, *]
      · rw [if_neg (by omega), Nat.testBit_div_two_pow]; congr 1; omega
  unfold setFld
  rw [BitVec.toNat_ofNat, Nat.testBit_mod_two_pow, t]
  by_cases h : i < 32
  · simp [h]
  · have : w.toNat.testBit i = false := Nat.testBit_lt_two_pow (lt_of_lt_of_le w.isLt (Nat.pow_le_pow_right (by omega) (by omega)))
    simp only [h, decide_false, Bool.false_and]
    rw [if_neg (by omega), if_neg (by omega), this]

/-- Bit `i` of a field. -/
theorem fld_testBit (w : Word) (lo len i : Nat) :
    (fld w lo len).testBit i = (decide (i < len) && w.toNat.testBit (lo + i)) := by
  unfold fld
  rw [Nat.testBit_mod_two_pow, Nat.testBit_div_two_pow, Nat.add_comm i lo]

/-- The field just replaced. -/
@[simp] theorem fld_setFld_self (w : Word) {lo len : Nat} (v : Nat) (hl : lo + len ≤ 32) :
    fld (setFld w lo len v) lo len = v % 2 ^ len := by
  apply Nat.eq_of_testBit_eq
  intro i
  rw [fld_testBit, setFld_testBit w v _ hl, Nat.testBit_mod_two_pow]
  by_cases h : i < len
  · simp [h]
  · simp [h]

/-- A field beside the one replaced. -/
theorem fld_setFld_ne (w : Word) {lo len lo' len' : Nat} (v : Nat) (hl : lo + len ≤ 32)
    (h : lo' + len' ≤ lo ∨ lo + len ≤ lo') : fld (setFld w lo len v) lo' len' = fld w lo' len' := by
  apply Nat.eq_of_testBit_eq
  intro i
  rw [fld_testBit, fld_testBit, setFld_testBit w v _ hl]
  by_cases hi : i < len'
  · rcases h with h | h
    · rw [if_pos (by omega)]
    · rw [if_neg (by omega), if_neg (by omega)]
  · simp [hi]

/-- A bit of a word as its one-bit field. -/
theorem bitOf_eq (w : Word) (i : Nat) : bitOf w i = (fld w i 1 == 1) := by
  have : (fld w i 1).testBit 0 = w.toNat.testBit i := by rw [fld_testBit]; simp
  have h2 : fld w i 1 < 2 := by unfold fld; omega
  unfold bitOf
  rw [← BitVec.testBit_toNat, ← this]
  generalize fld w i 1 = n at *
  interval_cases n <;> rfl

/-- A truth value as the number a one-bit field holds, read back. -/
@[simp] theorem b2n_mod (b : Bool) : b2n b % 2 = b2n b := by cases b <;> rfl

/-- A truth value as a number is 1 exactly when it is true. -/
@[simp] theorem b2n_beq_one (b : Bool) : (b2n b == 1) = b := by cases b <;> rfl

end Sys2Proof
end

