-- ==== Sys2Proof/Laws/Ops.lean ====
section
/-! SUPPORT. What the shared operations do: fields of registers, an access that reaches its register, the reception of
a request and the reply to it. -/

namespace Sys2Proof.Machine

open Sys2Proof

/-! ### Fields of registers -/

/-- A field just stored. -/
@[simp] theorem State.setF_f_self (s : State) (a v : Nat) {lo len : Nat} (h : lo + len ≤ 32) :
    (s.setF a lo len v).f a lo len = v % 2 ^ len := by
  simp [State.f, fld_setFld_self _ _ h]

/-- A field beside the one stored. -/
theorem State.setF_f_beside (s : State) (a v : Nat) {lo len lo' len' : Nat} (h : lo + len ≤ 32)
    (d : lo' + len' ≤ lo ∨ lo + len ≤ lo') : (s.setF a lo len v).f a lo' len' = s.f a lo' len' := by
  simp [State.f, fld_setFld_ne _ _ h d]

/-- A field of another register. -/
theorem State.setF_f_ne (s : State) {a b : Nat} (lo len v lo' len' : Nat) (h : b ≠ a) :
    (s.setF a lo len v).f b lo' len' = s.f b lo' len' := by
  simp [State.f, State.setF_rd_ne s lo len v h]

/-- A bit just stored. -/
@[simp] theorem State.setBit_bit_self (s : State) (a : Nat) (b : Bool) {i : Nat} (h : i < 32) :
    (s.setBit a i b).bit a i = b := by
  simp [State.setBit, State.bit, State.setF_f_self s a (b2n b) (show i + 1 ≤ 32 by omega)]

/-- A bit beside the one stored. -/
theorem State.setBit_bit_beside (s : State) (a : Nat) (b : Bool) {i j : Nat} (h : i < 32) (d : j ≠ i) :
    (s.setBit a i b).bit a j = s.bit a j := by
  unfold State.setBit State.bit
  rw [State.setF_f_beside s a (b2n b) (show i + 1 ≤ 32 by omega) (by omega)]

/-- A bit of another register. -/
theorem State.setBit_bit_ne (s : State) {a b : Nat} (i j : Nat) (v : Bool) (h : b ≠ a) :
    (s.setBit a i v).bit b j = s.bit b j := by
  unfold State.setBit State.bit
  rw [State.setF_f_ne s _ _ _ _ _ h]

/-! ### Accesses -/

@[simp] theorem State.begin_canAccess (s : State) (a : Nat) : s.begin.canAccess a = s.canAccess a := rfl

/-- A register that can be reached takes the operation of its row. -/
theorem State.access_of {s : State} {a : Nat} (f : State → State) (h : s.canAccess a = true) : s.access a f = f s := by
  unfold State.canAccess at h
  unfold State.access
  cases hb : blockOf s.part a with
  | none => simp [hb] at h
  | some d =>
    obtain ⟨d, absent⟩ := d
    simp only [hb, Bool.and_eq_true, Bool.not_eq_true'] at h
    simp [h]

/-- The same for a read. -/
theorem State.accessRead_of {s : State} {a : Nat} (f : State → State) (h : s.canAccess a = true) :
    s.accessRead a f = f s := by
  unfold State.canAccess at h
  unfold State.accessRead
  cases hb : blockOf s.part a with
  | none => simp [hb] at h
  | some d =>
    obtain ⟨d, absent⟩ := d
    simp only [hb, Bool.and_eq_true, Bool.not_eq_true'] at h
    simp [h]

/-! ### Requests and replies -/

@[simp] theorem State.begin_admits (s : State) (op : BitVec 8) (q : Msg) : s.begin.admits op q = s.admits op q := rfl

/-- A request firmware takes as it comes is served, its arrival stamped (R22). -/
theorem State.receive_of {s : State} {op : BitVec 8} {q : Msg} (f : State → State) (h : s.admits op q = true) :
    s.receive op q f = f { s.drawn with fw := { s.drawn.fw with arrival := s.stampOf false } } := by
  simp only [State.admits, State.fwRuns, Bool.and_eq_true, Bool.not_eq_true', decide_eq_true_eq, Bool.or_eq_true, beq_iff_eq] at h
  obtain ⟨⟨⟨⟨⟨⟨⟨⟨ha, hc⟩, hs⟩, hr⟩, hq⟩, hd⟩, hl⟩, hg⟩, hn⟩ := h
  unfold State.receive State.receiveAt
  rw [if_pos (by simp [ha, hc, hr]), if_pos (by exact hs)]
  unfold State.takeMsg
  rw [if_neg (by simp [hq, hd, hl]), if_neg (not_not_intro (by exact hg))]
  rw [if_neg]
  rintro ⟨h1, h2⟩
  rcases hn with hn | hn
  · exact h1 hn
  · exact absurd h2 (by simpa using hn)

/-- Checks that all pass let the request act. -/
theorem State.judge_of {s : State} {op : BitVec 8} {q : Msg} {checks : List (Bool × Nat)} (f : State → State)
    (h : ∀ c ∈ checks, c.1 = false) : s.judge op q checks f = f s := by
  unfold State.judge
  have : checks.find? (·.1) = none := by
    rw [List.find?_eq_none]; intro c hc; simp [h c hc]
  simp [this]

/-- The one reply that waits, its request's generation still current, enters HMB out where there is room. -/
theorem drainOutbox_one {s : State} {g : BitVec 4} {ws : List Word} (h : s.fw.outbox = [(g, ws)])
    (hg : g.toNat = s.gen 0) (hw : ws.length ≤ (s.fifo 1).free) :
    drainOutbox 1 s =
      (({ s with fw := { s.fw with outbox := [] } }).hmbPut ws).emit (.reply .spi none (ws.headD 0#32) (ws.drop 1)) := by
  unfold drainOutbox
  rw [h]
  simp only [ne_eq, hg, not_true_eq_false, if_false, hw, if_true]
  rfl

/-- Words put into HMB out show nothing outside by themselves. -/
@[simp] theorem State.hmbPut_out (s : State) (ws : List Word) : (s.hmbPut ws).out = s.out :=
  rfl

/-- A reply that can leave at once goes out. -/
theorem State.reply_out {s : State} {op : BitVec 8} {q : Msg} {st d : Nat} {ws : List Word}
    (hg : q.gen.toNat = s.gen 0) (h : s.answersNow q (2 + (if st = 0 then ws else []).length) = true) :
    (s.reply op q st d ws).out = s.out ++ [s.replyTo op q st d ws] := by
  unfold State.reply State.replyTo
  unfold State.answersNow at h
  rw [if_neg (by simp [hg])]
  cases hr : q.route with
  | spi =>
    simp only [hr, Bool.and_eq_true, decide_eq_true_eq, List.isEmpty_iff] at h
    obtain ⟨h1, h2⟩ := h
    simp only [h1, List.nil_append, List.length_singleton]
    rw [drainOutbox_one rfl (by exact hg) (by simp only [List.length_cons]; show _ ≤ (s.fifo 1).free; omega)]
    simp
  | port p =>
    simp only [hr, Bool.and_eq_true, Bool.not_eq_true'] at h
    simp [h, State.emit]

end Sys2Proof.Machine
end

