-- ==== Sys2Proof/Laws/PerInstr.lean ====
section
/-! SUPPORT. One lemma for each command about the command as syntax: only the commands named in `frameOf`'s docstring are
without a frame, and each of these lies in one of five families; a read that clears changes one register and no unit. -/

namespace Sys2Proof.Laws.Family

open Sys2Proof Sys2Proof.Machine

/-- The registers any command may reach belong to five families only, and a read that clears names one register and no
unit. -/
def Statement (i : Instr) : Prop :=
  (((frameOf i).isSome || [Family.register, .hostPort, .processor, .mailbox, .power].contains (familyOf i)) &&
    (familyOf i != .clearOnRead || (match frameOf i with | some ([], [_]) => true | _ => false))) = true

theorem registerWrite (m : Master) (addr : Nat) (v : Word) : Statement (.registerWrite m addr v) := rfl
theorem frameReceive (p : Port) (chk : RxCheck) (f : RxFrame) : Statement (.frameReceive p chk f) := rfl
theorem macsecControlFrame (p : Port) (chk : RxCheck) (bytes : List Byte) : Statement (.macsecControlFrame p chk bytes) := rfl
theorem hostFrameTransmit (p : Port) (ev : Option GptpTag) (pnLimit : Bool) : Statement (.hostFrameTransmit p ev pnLimit) := rfl
theorem link (p : Port) (ev : LinkEvent) : Statement (.link p ev) := rfl
theorem phyWake (p : Port) : Statement (.phyWake p) := rfl
theorem writeRect (f : PourFrag) : Statement (.writeRect f) := rfl
theorem fillRect (f : PourFrag) : Statement (.fillRect f) := rfl
theorem maskSet (f : PourFrag) : Statement (.maskSet f) := rfl
theorem maskClear (f : PourFrag) : Statement (.maskClear f) := rfl
theorem patternWrite (f : PourFrag) : Statement (.patternWrite f) := rfl
theorem glyphWrite (f : PourFrag) : Statement (.glyphWrite f) := rfl
theorem layerSet (f : PourFrag) : Statement (.layerSet f) := rfl
theorem meshWrite (f : PourFrag) : Statement (.meshWrite f) := rfl
theorem tableWrite (f : PourFrag) : Statement (.tableWrite f) := rfl
theorem segWrite (f : PourFrag) : Statement (.segWrite f) := rfl
theorem fence (f : PourFrag) : Statement (.fence f) := rfl
theorem abortPour (f : PourFrag) : Statement (.abortPour f) := rfl
theorem pourFragment (f : PourFrag) : Statement (.pourFragment f) := rfl
theorem fragTimeout (key : PourKey) : Statement (.fragTimeout key) := rfl
theorem tileMerge (key : PourKey) (tile : Nat) (faults : List CruFault) : Statement (.tileMerge key tile faults) := rfl
theorem storeCopyEnd : Statement .storeCopyEnd := rfl
theorem tablePourWrite : Statement .tablePourWrite := rfl
theorem tablePourWriteEnd : Statement .tablePourWriteEnd := rfl
theorem setSyncEnd (faults : List CruFault) : Statement (.setSyncEnd faults) := rfl
theorem fenceComplete : Statement .fenceComplete := rfl
theorem pourResultPop : Statement .pourResultPop := rfl
theorem flush : Statement .flush := rfl
theorem flushEnd : Statement .flushEnd := rfl
theorem streamEnable (p : Port) : Statement (.streamEnable p) := rfl
theorem frameStartEdge : Statement .frameStartEdge := rfl
theorem maskExpiry (i : Fin 256) : Statement (.maskExpiry i) := rfl
theorem frameLaunch : Statement .frameLaunch := rfl
theorem lineScan (row : Nat) (err : LineError) : Statement (.lineScan row err) := rfl
theorem poisonHalt : Statement .poisonHalt := rfl
theorem maskLineBoundary : Statement .maskLineBoundary := rfl
theorem tileRowUpdate (row : Nat) (faults : List CruFault) : Statement (.tileRowUpdate row faults) := rfl
theorem temperTick : Statement .temperTick := rfl
theorem burstExhausted : Statement .burstExhausted := rfl
theorem shedEnd : Statement .shedEnd := rfl
theorem temperStep : Statement .temperStep := rfl
theorem ackReceive (n : Fin 64) (b : RxBlock) : Statement (.ackReceive n b) := rfl
theorem rbdReceive (n : Fin 64) (b : RxBlock) : Statement (.rbdReceive n b) := rfl
theorem almReceive (n : Fin 64) (b : RxBlock) : Statement (.almReceive n b) := rfl
theorem calReceive (n : Fin 64) (b : RxBlock) : Statement (.calReceive n b) := rfl
theorem fomReceive (n : Fin 64) (b : RxBlock) : Statement (.fomReceive n b) := rfl
theorem synReceive (n : Fin 64) (b : RxBlock) : Statement (.synReceive n b) := rfl
theorem blockLockGain (n : Fin 64) : Statement (.blockLockGain n) := rfl
theorem blockLockLoss (n : Fin 64) : Statement (.blockLockLoss n) := rfl
theorem laneSignalDetect (n : Fin 64) : Statement (.laneSignalDetect n) := rfl
theorem laneSignalLoss (n : Fin 64) : Statement (.laneSignalLoss n) := rfl
theorem laneRecover (n : Fin 64) : Statement (.laneRecover n) := rfl
theorem presetStep (n : Fin 64) : Statement (.presetStep n) := rfl
theorem trainTimeout (n : Fin 64) : Statement (.trainTimeout n) := rfl
theorem detectHoldoffEnd (n : Fin 64) : Statement (.detectHoldoffEnd n) := rfl
theorem mgmtBlockSend (sl : Fin 64) : Statement (.mgmtBlockSend sl) := rfl
theorem calLoadStart (sl : Fin 64) : Statement (.calLoadStart sl) := rfl
theorem calLoadTimeout (sl : Fin 64) : Statement (.calLoadTimeout sl) := rfl
theorem lnkCalDoneClear : Statement .lnkCalDoneClear := rfl
theorem readbackTimeout (sl : Fin 64) : Statement (.readbackTimeout sl) := rfl
theorem errorLimit (n : Fin 64) : Statement (.errorLimit n) := rfl
theorem errorInject (n : Fin 64) (burst : Bool) : Statement (.errorInject n burst) := rfl
theorem eyeScan (n : Fin 64) : Statement (.eyeScan n) := rfl
theorem eyeScanEnd (n : Fin 64) (width : Nat) (height : Nat) : Statement (.eyeScanEnd n width height) := rfl
theorem laneEnWrite (n : Fin 64) (en : Bool) : Statement (.laneEnWrite n en) := rfl
theorem laneTakeWrite (n : Fin 64) (take : Bool) : Statement (.laneTakeWrite n take) := rfl
theorem laneRateWrite (n : Fin 64) (rate : BitVec 2) : Statement (.laneRateWrite n rate) := rfl
theorem linkEnWrite (en : Bool) : Statement (.linkEnWrite en) := rfl
theorem segmentFrameStart : Statement .segmentFrameStart := rfl
theorem segmentSlot (checks : List OutCheck) : Statement (.segmentSlot checks) := rfl
theorem segmentEnable : Statement .segmentEnable := rfl
theorem segmentDisable : Statement .segmentDisable := rfl
theorem vlcdFault : Statement .vlcdFault := rfl
theorem vlcdOkSet : Statement .vlcdOkSet := rfl
theorem vsrcWrite (v : BitVec 2) : Statement (.vsrcWrite v) := rfl
theorem timeSet (v : Word) : Statement (.timeSet v) := rfl
theorem timeAdj (v : Word) : Statement (.timeAdj v) := rfl
theorem adjustEnd : Statement .adjustEnd := rfl
theorem timeNsRead : Statement .timeNsRead := rfl
theorem timeNsWrap : Statement .timeNsWrap := rfl
theorem frameEdgesEnable : Statement .frameEdgesEnable := rfl
theorem frameEdgesDisable : Statement .frameEdgesDisable := rfl
theorem periodWrite (v : Word) : Statement (.periodWrite v) := rfl
theorem txqPop (p : Port) : Statement (.txqPop p) := rfl
theorem syncPinEdge (i : Fin 4) (rising : Bool) : Statement (.syncPinEdge i rising) := rfl
theorem syncMsg (p : Port) (m : GptpMsg) : Statement (.syncMsg p m) := rfl
theorem followUp (p : Port) (m : GptpMsg) : Statement (.followUp p m) := rfl
theorem announce (p : Port) (m : GptpMsg) : Statement (.announce p m) := rfl
theorem pdelayReq (p : Port) (m : GptpMsg) : Statement (.pdelayReq p m) := rfl
theorem pdelayResp (p : Port) (m : GptpMsg) : Statement (.pdelayResp p m) := rfl
theorem pdelayRespFollowUp (p : Port) (m : GptpMsg) : Statement (.pdelayRespFollowUp p m) := rfl
theorem signaling (p : Port) (m : GptpMsg) : Statement (.signaling p m) := rfl
theorem syncReceiptTimeout : Statement .syncReceiptTimeout := rfl
theorem gridAlign (offset : Int) : Statement (.gridAlign offset) := rfl
theorem crucibleWindowAccess (m : Master) (off : Nat) (wr : Option Word) (ecc : EccResult) (spareBad : Bool) : Statement (.crucibleWindowAccess m off wr ecc spareBad) := rfl
theorem scrubRead (off : Nat) (found : ScrubResult) : Statement (.scrubRead off found) := rfl
theorem columnFillEnd (faults : List CruFault) : Statement (.columnFillEnd faults) := rfl
theorem scrubPassEnd : Statement .scrubPassEnd := rfl
theorem bankRetire (bank : Nat) (bad : Nat) : Statement (.bankRetire bank bad) := rfl
theorem retirementQueuedStart (bad : Nat) : Statement (.retirementQueuedStart bad) := rfl
theorem retirementCopyEnd (spareBad : Bool) (faults : List CruFault) : Statement (.retirementCopyEnd spareBad faults) := rfl
theorem retirementMarchEnd (pass : Bool) : Statement (.retirementMarchEnd pass) := rfl
theorem tundishBatch (reqs : List TunReq) : Statement (.tundishBatch reqs) := rfl
theorem tunLockRead (m : Master) (n : Fin 64) : Statement (.tunLockRead m n) := rfl
theorem tunLockWrite (m : Master) (n : Fin 64) (v : Word) : Statement (.tunLockWrite m n v) := rfl
theorem marchRun (first : Nat) (last : Nat) (preserving : Bool) : Statement (.marchRun first last preserving) := rfl
theorem marchBlockDone (pass : Bool) : Statement (.marchBlockDone pass) := rfl
theorem marchEnd : Statement .marchEnd := rfl
theorem bootRomRun (c : Core) (xspiError : List Nat) : Statement (.bootRomRun c xspiError) := rfl
theorem firmwareStart (c : Core) : Statement (.firmwareStart c) := rfl
theorem arbTargetWrite (m : Master) (target : Nat) : Statement (.arbTargetWrite m target) := rfl
theorem roleSwap (m : Master) : Statement (.roleSwap m) := rfl
theorem swapApply : Statement .swapApply := rfl
theorem handoverTimeout : Statement .handoverTimeout := rfl
theorem watchdogKick (c : Core) (v : BitVec 8) : Statement (.watchdogKick c v) := rfl
theorem watchdogExpire (c : Core) : Statement (.watchdogExpire c) := rfl
theorem takeover : Statement .takeover := rfl
theorem mailboxPost (w : MbxAgent) (d : Fin 4) (v : Word) : Statement (.mailboxPost w d v) := rfl
theorem mailboxPop (r : MbxAgent) (d : Fin 4) : Statement (.mailboxPop r d) := by
  cases r
  · rfl
  · unfold Statement frameOf; dsimp only; split <;> rfl
theorem hostGenerationWrite (v : Word) : Statement (.hostGenerationWrite v) := rfl
theorem doorbellSet (a : DbAgent) (t : Fin 4) (bits : Word) : Statement (.doorbellSet a t bits) := rfl
theorem doorbellClear (a : DbAgent) (t : Fin 4) (bits : Word) : Statement (.doorbellClear a t bits) := rfl
theorem heartbeat : Statement .heartbeat := rfl
theorem spiStatus (f : SpiFrame) : Statement (.spiStatus f) := rfl
theorem debugWindowRead (addr : Nat) (inTime : Bool) : Statement (.debugWindowRead addr inTime) := rfl
theorem debugWindowWrite (addr : Nat) (v : Word) : Statement (.debugWindowWrite addr v) := rfl
theorem debugAccessComplete : Statement .debugAccessComplete := rfl
theorem dbgBaseWrite (v : Word) : Statement (.dbgBaseWrite v) := rfl
theorem eventSoftwareSet (src : Nat) : Statement (.eventSoftwareSet src) := rfl
theorem eventEnableWrite (i : Fin 32) (v : Word) : Statement (.eventEnableWrite i v) := rfl
theorem identify (q : Msg) : Statement (.identify q) := rfl
theorem getStatus (q : Msg) : Statement (.getStatus q) := rfl
theorem statusMsg : Statement .statusMsg := rfl
theorem configSet (q : Msg) : Statement (.configSet q) := rfl
theorem configGet (q : Msg) : Statement (.configGet q) := rfl
theorem lampState (q : Msg) : Statement (.lampState q) := rfl
theorem patternSelect (q : Msg) : Statement (.patternSelect q) := rfl
theorem levelSet (q : Msg) : Statement (.levelSet q) := rfl
theorem ingotStoreBegin (q : Msg) : Statement (.ingotStoreBegin q) := rfl
theorem ingotStoreData (q : Msg) : Statement (.ingotStoreData q) := rfl
theorem ingotStoreEnd (q : Msg) : Statement (.ingotStoreEnd q) := rfl
theorem maskSetMessage (q : Msg) : Statement (.maskSetMessage q) := rfl
theorem eventRead (q : Msg) : Statement (.eventRead q) := rfl
theorem eventConfig (q : Msg) : Statement (.eventConfig q) := rfl
theorem timeStatus (q : Msg) : Statement (.timeStatus q) := rfl
theorem timeConfigThr (q : Msg) : Statement (.timeConfigThr q) := rfl
theorem timeConfigSlew (q : Msg) : Statement (.timeConfigSlew q) := rfl
theorem timeConfigHoldover (q : Msg) : Statement (.timeConfigHoldover q) := rfl
theorem timeConfigAsym (q : Msg) : Statement (.timeConfigAsym q) := rfl
theorem timeConfigLat (q : Msg) : Statement (.timeConfigLat q) := rfl
theorem timeConfigJoin (q : Msg) : Statement (.timeConfigJoin q) := rfl
theorem timeConfigWindow (q : Msg) : Statement (.timeConfigWindow q) := rfl
theorem calRun (q : Msg) : Statement (.calRun q) := rfl
theorem calRead (q : Msg) : Statement (.calRead q) := rfl
theorem nvRead (q : Msg) (faults : List (Nat × EccResult)) : Statement (.nvRead q faults) := rfl
theorem nvWrite (q : Msg) : Statement (.nvWrite q) := rfl
theorem nvSaveNow (q : Msg) : Statement (.nvSaveNow q) := rfl
theorem fwStageBegin (q : Msg) : Statement (.fwStageBegin q) := rfl
theorem fwStageData (q : Msg) : Statement (.fwStageData q) := rfl
theorem fwStageEnd (q : Msg) : Statement (.fwStageEnd q) := rfl
theorem transferTimeout (k : XferKind) : Statement (.transferTimeout k) := rfl
theorem fwCommit (q : Msg) : Statement (.fwCommit q) := rfl
theorem fwHandover (q : Msg) : Statement (.fwHandover q) := rfl
theorem selftestMarchPreserving (q : Msg) : Statement (.selftestMarchPreserving q) := rfl
theorem selftestMarchDestructive (q : Msg) : Statement (.selftestMarchDestructive q) := rfl
theorem selftestScrub (q : Msg) : Statement (.selftestScrub q) := rfl
theorem selftestBankRetire (q : Msg) : Statement (.selftestBankRetire q) := rfl
theorem selftestLanePrbs (q : Msg) : Statement (.selftestLanePrbs q) := rfl
theorem selftestEyeScan (q : Msg) : Statement (.selftestEyeScan q) := rfl
theorem selftestReadbackSweep (q : Msg) : Statement (.selftestReadbackSweep q) := rfl
theorem selftestSegmentSweep (q : Msg) : Statement (.selftestSegmentSweep q) := rfl
theorem selftestTestFrame (q : Msg) : Statement (.selftestTestFrame q) := rfl
theorem selftestSensorCheck (q : Msg) : Statement (.selftestSensorCheck q) := rfl
theorem selftestPixelScan (q : Msg) : Statement (.selftestPixelScan q) := rfl
theorem laneCtrlRestore (q : Msg) : Statement (.laneCtrlRestore q) := rfl
theorem laneCtrlEnable (q : Msg) : Statement (.laneCtrlEnable q) := rfl
theorem laneCtrlDisable (q : Msg) : Statement (.laneCtrlDisable q) := rfl
theorem laneCtrlRetrain (q : Msg) : Statement (.laneCtrlRetrain q) := rfl
theorem laneCtrlRate (q : Msg) : Statement (.laneCtrlRate q) := rfl
theorem laneCtrlTake (q : Msg) : Statement (.laneCtrlTake q) := rfl
theorem laneCtrlReport (q : Msg) : Statement (.laneCtrlReport q) := rfl
theorem powerVoteDomain (q : Msg) : Statement (.powerVoteDomain q) := rfl
theorem powerVoteState (q : Msg) : Statement (.powerVoteState q) := rfl
theorem powerVoteOp (q : Msg) : Statement (.powerVoteOp q) := rfl
theorem logRead (q : Msg) : Statement (.logRead q) := rfl
theorem streamLoss : Statement .streamLoss := rfl
theorem voteWrite (d : Fin 12) (v : Word) : Statement (.voteWrite d v) := rfl
theorem domainOn (d : Fin 12) : Statement (.domainOn d) := rfl
theorem drainEnd (d : Fin 12) : Statement (.drainEnd d) := rfl
theorem drainTimeout (d : Fin 12) : Statement (.drainTimeout d) := rfl
theorem dmaTransfer (t : DmaDesc) : Statement (.dmaTransfer t) := rfl
theorem dmaTransferEnd : Statement .dmaTransferEnd := rfl
theorem pwrReqState (m : Master) (client : Nat) (target : Nat) : Statement (.pwrReqState m client target) := rfl
theorem pwrReqOp (m : Master) (client : Nat) (target : Nat) : Statement (.pwrReqOp m client target) := rfl
theorem requestStart : Statement .requestStart := rfl
theorem opSwitch : Statement .opSwitch := rfl
theorem pllPrepareEnd : Statement .pllPrepareEnd := rfl
theorem avsTransactionEnd (acked : Bool) : Statement (.avsTransactionEnd acked) := rfl
theorem avsSettleEnd : Statement .avsSettleEnd := rfl
theorem powerDonePop : Statement .powerDonePop := rfl
theorem wake (src : WakeSource) : Statement (.wake src) := rfl
theorem pfail : Statement .pfail := rfl
theorem pfailSaved : Statement .pfailSaved := rfl
theorem pfailCleared : Statement .pfailCleared := rfl
theorem powerOnReset (straps : Straps) (marchFail : List Nat) : Statement (.powerOnReset straps marchFail) := rfl
theorem porstAssert : Statement .porstAssert := rfl
theorem supplyMonitorTrip (rail : Rail) : Statement (.supplyMonitorTrip rail) := rfl
theorem hostReset : Statement .hostReset := rfl
theorem hostResetRelease : Statement .hostResetRelease := rfl
theorem testmodeEntry : Statement .testmodeEntry := rfl
theorem nvUnitWrite (m : Master) (unit : Nat) : Statement (.nvUnitWrite m unit) := rfl
theorem nvUnitDone : Statement .nvUnitDone := rfl
theorem nvWindowRead (m : Master) (addr : Nat) (ecc : EccResult) : Statement (.nvWindowRead m addr ecc) := rfl
theorem nvLock : Statement .nvLock := rfl
theorem wearSave : Statement .wearSave := rfl
theorem nvWearDone (faults : List CruFault) : Statement (.nvWearDone faults) := rfl
theorem adcSchedule (r : AdcReadings) : Statement (.adcSchedule r) := rfl
theorem ain0Conversion (code : BitVec 12) : Statement (.ain0Conversion code) := rfl
theorem calApply (i : Fin 16) : Statement (.calApply i) := rfl
theorem calStart (obj : BitVec 8) : Statement (.calStart obj) := rfl
theorem calEnd (r : CalOutcome) : Statement (.calEnd r) := rfl
theorem adcTrimUpdate : Statement .adcTrimUpdate := rfl
theorem logAppend : Statement .logAppend := rfl
theorem litHourSave : Statement .litHourSave := rfl
theorem pourResstatRead : Statement .pourResstatRead := rfl
theorem pourErrcntRead : Statement .pourErrcntRead := rfl
theorem pipeErrcntRead : Statement .pipeErrcntRead := rfl
theorem tmpErrcntRead : Statement .tmpErrcntRead := rfl
theorem lnkErrRead (n : Fin 64) : Statement (.lnkErrRead n) := rfl
theorem lnkErr2Read (n : Fin 64) : Statement (.lnkErr2Read n) := rfl
theorem lnkPrbsRead (n : Fin 64) : Statement (.lnkPrbsRead n) := rfl
theorem lnkAlm1Read (n : Fin 64) : Statement (.lnkAlm1Read n) := rfl
theorem timeTxq2Read (p : Port) : Statement (.timeTxq2Read p) := rfl
theorem cruUeRead : Statement .cruUeRead := rfl
theorem tunEccRead : Statement .tunEccRead := rfl
theorem mbxCntRead (d : Fin 4) : Statement (.mbxCntRead d) := rfl
theorem pwrDoneRead : Statement .pwrDoneRead := rfl
theorem nvcStatRead : Statement .nvcStatRead := rfl
theorem nvcWearRead : Statement .nvcWearRead := rfl
theorem nvcEccRead : Statement .nvcEccRead := rfl
theorem calRunTimeout : Statement .calRunTimeout := rfl
theorem slotEraseEnd : Statement .slotEraseEnd := rfl
theorem rowCopyEnd (faults : List CruFault) : Statement (.rowCopyEnd faults) := rfl

end Sys2Proof.Laws.Family
end

