-- ==== Sys2Proof/Laws/Raise.lean ====
section
/-! SUPPORT. What the occurrence of an event changes and what it leaves (R22, R232, R292). -/

namespace Sys2Proof.Machine

open Sys2Proof

/-- A conditional operation that leaves a part of the state alone. -/
theorem State.when_proj {α : Type} (p : State → α) (s : State) (c : Bool) (f : State → State) (h : p (f s) = p s) :
    p (s.when c f) = p s := by
  cases c
  · rfl
  · exact h

/-- Two states that differ at most in the register file, the free values drawn, the log's counts and the retention memory. -/
def State.AsEvent (s t : State) : Prop :=
  ∃ r f q l m, t = { s with regs := r, free := f, fw := { s.fw with logSeq := q, logLost := l }, pwr := { s.pwr with retMem := m } }

theorem State.AsEvent.refl (s : State) : s.AsEvent s := ⟨s.regs, s.free, s.fw.logSeq, s.fw.logLost, s.pwr.retMem, rfl⟩

theorem State.AsEvent.trans {s t u : State} (h : s.AsEvent t) (g : t.AsEvent u) : s.AsEvent u := by
  obtain ⟨r, f, q, l, m, rfl⟩ := h
  obtain ⟨r', f', q', l', m', rfl⟩ := g
  exact ⟨r', f', q', l', m', rfl⟩

theorem State.AsEvent.when {s t : State} (h : s.AsEvent t) (c : Bool) (f : State → State) (g : ∀ s : State, s.AsEvent (f s)) :
    s.AsEvent (t.when c f) := by
  cases c
  · exact h
  · exact h.trans (g _)

theorem State.asEvent_wr (s : State) (a : Nat) (v : Word) : s.AsEvent (s.wr a v) :=
  ⟨_, s.free, s.fw.logSeq, s.fw.logLost, s.pwr.retMem, rfl⟩

theorem State.asEvent_logPush (s : State) (r : List Word) : s.AsEvent (s.logPush r) := by
  unfold State.logPush
  dsimp only
  split
  · exact ⟨_, s.free, s.fw.logSeq + 1, s.fw.logLost, _, rfl⟩
  · exact ⟨s.regs, s.free, s.fw.logSeq, s.fw.logLost + 1, s.pwr.retMem, rfl⟩

/-- An event changes registers, the free values drawn, the log's counts and the retention memory alone. -/
theorem State.asEvent_raiseD (s : State) (n : Nat) (d : Word) : s.AsEvent (s.raiseD n d) := by
  unfold State.raiseD State.logLatch
  split
  · refine State.AsEvent.when (State.AsEvent.when ?_ _ _ fun s => State.asEvent_wr _ _ _) _ _ fun s => State.asEvent_logPush _ _
    exact ⟨_, s.free + 1, s.fw.logSeq, s.fw.logLost, s.pwr.retMem, rfl⟩
  · exact .refl s

/-- PWR_PFSTAT TAIL is the one register the log changes. -/
theorem State.logPush_rd (s : State) (r : List Word) {a : Nat} (h : a ≠ aOf.pwrPfstat) : (s.logPush r).rd a = s.rd a := by
  unfold State.logPush
  dsimp only
  split
  · exact State.setF_rd_ne _ _ _ _ h
  · rfl

section Raise

variable (s : State) (n : Nat) (d : Word)

@[simp] theorem State.raiseD_pending : (s.raiseD n d).pending = s.pending := by
  obtain ⟨_, _, _, _, _, h⟩ := s.asEvent_raiseD n d; rw [h]
@[simp] theorem State.raiseD_out : (s.raiseD n d).out = s.out := by
  obtain ⟨_, _, _, _, _, h⟩ := s.asEvent_raiseD n d; rw [h]
@[simp] theorem State.raiseD_fuses : (s.raiseD n d).fuses = s.fuses := by
  obtain ⟨_, _, _, _, _, h⟩ := s.asEvent_raiseD n d; rw [h]
@[simp] theorem State.raiseD_pins : (s.raiseD n d).pins = s.pins := by
  obtain ⟨_, _, _, _, _, h⟩ := s.asEvent_raiseD n d; rw [h]
@[simp] theorem State.raiseD_time : (s.raiseD n d).time = s.time := by
  obtain ⟨_, _, _, _, _, h⟩ := s.asEvent_raiseD n d; rw [h]
@[simp] theorem State.raiseD_pour : (s.raiseD n d).pour = s.pour := by
  obtain ⟨_, _, _, _, _, h⟩ := s.asEvent_raiseD n d; rw [h]
@[simp] theorem State.raiseD_beam : (s.raiseD n d).beam = s.beam := by
  obtain ⟨_, _, _, _, _, h⟩ := s.asEvent_raiseD n d; rw [h]
@[simp] theorem State.raiseD_pipe : (s.raiseD n d).pipe = s.pipe := by
  obtain ⟨_, _, _, _, _, h⟩ := s.asEvent_raiseD n d; rw [h]
@[simp] theorem State.raiseD_temper : (s.raiseD n d).temper = s.temper := by
  obtain ⟨_, _, _, _, _, h⟩ := s.asEvent_raiseD n d; rw [h]
@[simp] theorem State.raiseD_link : (s.raiseD n d).link = s.link := by
  obtain ⟨_, _, _, _, _, h⟩ := s.asEvent_raiseD n d; rw [h]
@[simp] theorem State.raiseD_seg : (s.raiseD n d).seg = s.seg := by
  obtain ⟨_, _, _, _, _, h⟩ := s.asEvent_raiseD n d; rw [h]
@[simp] theorem State.raiseD_cru : (s.raiseD n d).cru = s.cru := by
  obtain ⟨_, _, _, _, _, h⟩ := s.asEvent_raiseD n d; rw [h]
@[simp] theorem State.raiseD_tun : (s.raiseD n d).tun = s.tun := by
  obtain ⟨_, _, _, _, _, h⟩ := s.asEvent_raiseD n d; rw [h]
@[simp] theorem State.raiseD_mbx : (s.raiseD n d).mbx = s.mbx := by
  obtain ⟨_, _, _, _, _, h⟩ := s.asEvent_raiseD n d; rw [h]
@[simp] theorem State.raiseD_cpu : (s.raiseD n d).cpu = s.cpu := by
  obtain ⟨_, _, _, _, _, h⟩ := s.asEvent_raiseD n d; rw [h]
@[simp] theorem State.raiseD_nv : (s.raiseD n d).nv = s.nv := by
  obtain ⟨_, _, _, _, _, h⟩ := s.asEvent_raiseD n d; rw [h]
@[simp] theorem State.raiseD_cal : (s.raiseD n d).cal = s.cal := by
  obtain ⟨_, _, _, _, _, h⟩ := s.asEvent_raiseD n d; rw [h]
@[simp] theorem State.raiseD_port0 : (s.raiseD n d).port0 = s.port0 := by
  obtain ⟨_, _, _, _, _, h⟩ := s.asEvent_raiseD n d; rw [h]
@[simp] theorem State.raiseD_port1 : (s.raiseD n d).port1 = s.port1 := by
  obtain ⟨_, _, _, _, _, h⟩ := s.asEvent_raiseD n d; rw [h]
@[simp] theorem State.raiseD_fw_started : (s.raiseD n d).fw.started = s.fw.started := by
  obtain ⟨_, _, _, _, _, h⟩ := s.asEvent_raiseD n d; rw [h]
@[simp] theorem State.raiseD_fw_lamp : (s.raiseD n d).fw.lamp = s.fw.lamp := by
  obtain ⟨_, _, _, _, _, h⟩ := s.asEvent_raiseD n d; rw [h]
@[simp] theorem State.raiseD_fw_leaving : (s.raiseD n d).fw.leaving = s.fw.leaving := by
  obtain ⟨_, _, _, _, _, h⟩ := s.asEvent_raiseD n d; rw [h]
@[simp] theorem State.raiseD_fw_entering : (s.raiseD n d).fw.entering = s.fw.entering := by
  obtain ⟨_, _, _, _, _, h⟩ := s.asEvent_raiseD n d; rw [h]
@[simp] theorem State.raiseD_fw_restart : (s.raiseD n d).fw.restart = s.fw.restart := by
  obtain ⟨_, _, _, _, _, h⟩ := s.asEvent_raiseD n d; rw [h]
@[simp] theorem State.raiseD_fw_burstDue : (s.raiseD n d).fw.burstDue = s.fw.burstDue := by
  obtain ⟨_, _, _, _, _, h⟩ := s.asEvent_raiseD n d; rw [h]
@[simp] theorem State.raiseD_fw_fade : (s.raiseD n d).fw.fade = s.fw.fade := by
  obtain ⟨_, _, _, _, _, h⟩ := s.asEvent_raiseD n d; rw [h]
@[simp] theorem State.raiseD_fw_cuts : (s.raiseD n d).fw.cuts = s.fw.cuts := by
  obtain ⟨_, _, _, _, _, h⟩ := s.asEvent_raiseD n d; rw [h]
@[simp] theorem State.raiseD_fw_entered : (s.raiseD n d).fw.entered = s.fw.entered := by
  obtain ⟨_, _, _, _, _, h⟩ := s.asEvent_raiseD n d; rw [h]
@[simp] theorem State.raiseD_fw_ingotStale : (s.raiseD n d).fw.ingotStale = s.fw.ingotStale := by
  obtain ⟨_, _, _, _, _, h⟩ := s.asEvent_raiseD n d; rw [h]
@[simp] theorem State.raiseD_fw_items : (s.raiseD n d).fw.items = s.fw.items := by
  obtain ⟨_, _, _, _, _, h⟩ := s.asEvent_raiseD n d; rw [h]
@[simp] theorem State.raiseD_fw_requests : (s.raiseD n d).fw.requests = s.fw.requests := by
  obtain ⟨_, _, _, _, _, h⟩ := s.asEvent_raiseD n d; rw [h]
@[simp] theorem State.raiseD_fw_outbox : (s.raiseD n d).fw.outbox = s.fw.outbox := by
  obtain ⟨_, _, _, _, _, h⟩ := s.asEvent_raiseD n d; rw [h]
@[simp] theorem State.raiseD_fw_repliesLost : (s.raiseD n d).fw.repliesLost = s.fw.repliesLost := by
  obtain ⟨_, _, _, _, _, h⟩ := s.asEvent_raiseD n d; rw [h]
@[simp] theorem State.raiseD_fw_discarded : (s.raiseD n d).fw.discarded = s.fw.discarded := by
  obtain ⟨_, _, _, _, _, h⟩ := s.asEvent_raiseD n d; rw [h]
@[simp] theorem State.raiseD_fw_inbox : (s.raiseD n d).fw.inbox = s.fw.inbox := by
  obtain ⟨_, _, _, _, _, h⟩ := s.asEvent_raiseD n d; rw [h]
@[simp] theorem State.raiseD_fw_arrival : (s.raiseD n d).fw.arrival = s.fw.arrival := by
  obtain ⟨_, _, _, _, _, h⟩ := s.asEvent_raiseD n d; rw [h]
@[simp] theorem State.raiseD_fw_hmbIn : (s.raiseD n d).fw.hmbIn = s.fw.hmbIn := by
  obtain ⟨_, _, _, _, _, h⟩ := s.asEvent_raiseD n d; rw [h]
@[simp] theorem State.raiseD_fw_ctlFrames : (s.raiseD n d).fw.ctlFrames = s.fw.ctlFrames := by
  obtain ⟨_, _, _, _, _, h⟩ := s.asEvent_raiseD n d; rw [h]
@[simp] theorem State.raiseD_fw_ingotXfer : (s.raiseD n d).fw.ingotXfer = s.fw.ingotXfer := by
  obtain ⟨_, _, _, _, _, h⟩ := s.asEvent_raiseD n d; rw [h]
@[simp] theorem State.raiseD_fw_fwXfer : (s.raiseD n d).fw.fwXfer = s.fw.fwXfer := by
  obtain ⟨_, _, _, _, _, h⟩ := s.asEvent_raiseD n d; rw [h]
@[simp] theorem State.raiseD_fw_xferClosed : (s.raiseD n d).fw.xferClosed = s.fw.xferClosed := by
  obtain ⟨_, _, _, _, _, h⟩ := s.asEvent_raiseD n d; rw [h]
@[simp] theorem State.raiseD_fw_statusSeq : (s.raiseD n d).fw.statusSeq = s.fw.statusSeq := by
  obtain ⟨_, _, _, _, _, h⟩ := s.asEvent_raiseD n d; rw [h]
@[simp] theorem State.raiseD_fw_statusDropped : (s.raiseD n d).fw.statusDropped = s.fw.statusDropped := by
  obtain ⟨_, _, _, _, _, h⟩ := s.asEvent_raiseD n d; rw [h]
@[simp] theorem State.raiseD_fw_lastPourNs : (s.raiseD n d).fw.lastPourNs = s.fw.lastPourNs := by
  obtain ⟨_, _, _, _, _, h⟩ := s.asEvent_raiseD n d; rw [h]
@[simp] theorem State.raiseD_fw_silenceFrom : (s.raiseD n d).fw.silenceFrom = s.fw.silenceFrom := by
  obtain ⟨_, _, _, _, _, h⟩ := s.asEvent_raiseD n d; rw [h]
@[simp] theorem State.raiseD_fw_injectId : (s.raiseD n d).fw.injectId = s.fw.injectId := by
  obtain ⟨_, _, _, _, _, h⟩ := s.asEvent_raiseD n d; rw [h]
@[simp] theorem State.raiseD_fw_test : (s.raiseD n d).fw.test = s.fw.test := by
  obtain ⟨_, _, _, _, _, h⟩ := s.asEvent_raiseD n d; rw [h]
@[simp] theorem State.raiseD_fw_servo : (s.raiseD n d).fw.servo = s.fw.servo := by
  obtain ⟨_, _, _, _, _, h⟩ := s.asEvent_raiseD n d; rw [h]
@[simp] theorem State.raiseD_fw_bootCount : (s.raiseD n d).fw.bootCount = s.fw.bootCount := by
  obtain ⟨_, _, _, _, _, h⟩ := s.asEvent_raiseD n d; rw [h]
@[simp] theorem State.raiseD_fw_tseg : (s.raiseD n d).fw.tseg = s.fw.tseg := by
  obtain ⟨_, _, _, _, _, h⟩ := s.asEvent_raiseD n d; rw [h]
@[simp] theorem State.raiseD_fw_litSaved : (s.raiseD n d).fw.litSaved = s.fw.litSaved := by
  obtain ⟨_, _, _, _, _, h⟩ := s.asEvent_raiseD n d; rw [h]
@[simp] theorem State.raiseD_fw_loads : (s.raiseD n d).fw.loads = s.fw.loads := by
  obtain ⟨_, _, _, _, _, h⟩ := s.asEvent_raiseD n d; rw [h]
@[simp] theorem State.raiseD_fw_tablesDue : (s.raiseD n d).fw.tablesDue = s.fw.tablesDue := by
  obtain ⟨_, _, _, _, _, h⟩ := s.asEvent_raiseD n d; rw [h]
@[simp] theorem State.raiseD_fw_darkSlices : (s.raiseD n d).fw.darkSlices = s.fw.darkSlices := by
  obtain ⟨_, _, _, _, _, h⟩ := s.asEvent_raiseD n d; rw [h]
@[simp] theorem State.raiseD_fw_hibernate : (s.raiseD n d).fw.hibernate = s.fw.hibernate := by
  obtain ⟨_, _, _, _, _, h⟩ := s.asEvent_raiseD n d; rw [h]
@[simp] theorem State.raiseD_pwr_dma : (s.raiseD n d).pwr.dma = s.pwr.dma := by
  obtain ⟨_, _, _, _, _, h⟩ := s.asEvent_raiseD n d; rw [h]
@[simp] theorem State.raiseD_pwr_trans : (s.raiseD n d).pwr.trans = s.pwr.trans := by
  obtain ⟨_, _, _, _, _, h⟩ := s.asEvent_raiseD n d; rw [h]
@[simp] theorem State.raiseD_pwr_stepTrans : (s.raiseD n d).pwr.stepTrans = s.pwr.stepTrans := by
  obtain ⟨_, _, _, _, _, h⟩ := s.asEvent_raiseD n d; rw [h]
@[simp] theorem State.raiseD_pwr_volt : (s.raiseD n d).pwr.volt = s.pwr.volt := by
  obtain ⟨_, _, _, _, _, h⟩ := s.asEvent_raiseD n d; rw [h]
@[simp] theorem State.raiseD_pwr_avsJob : (s.raiseD n d).pwr.avsJob = s.pwr.avsJob := by
  obtain ⟨_, _, _, _, _, h⟩ := s.asEvent_raiseD n d; rw [h]
@[simp] theorem State.raiseD_pwr_drains : (s.raiseD n d).pwr.drains = s.pwr.drains := by
  obtain ⟨_, _, _, _, _, h⟩ := s.asEvent_raiseD n d; rw [h]
@[simp] theorem State.raiseD_pwr_pendingReq : (s.raiseD n d).pwr.pendingReq = s.pwr.pendingReq := by
  obtain ⟨_, _, _, _, _, h⟩ := s.asEvent_raiseD n d; rw [h]
@[simp] theorem State.raiseD_pwr_done : (s.raiseD n d).pwr.done = s.pwr.done := by
  obtain ⟨_, _, _, _, _, h⟩ := s.asEvent_raiseD n d; rw [h]
@[simp] theorem State.raiseD_pwr_tickets : (s.raiseD n d).pwr.tickets = s.pwr.tickets := by
  obtain ⟨_, _, _, _, _, h⟩ := s.asEvent_raiseD n d; rw [h]
@[simp] theorem State.raiseD_pwr_saving : (s.raiseD n d).pwr.saving = s.pwr.saving := by
  obtain ⟨_, _, _, _, _, h⟩ := s.asEvent_raiseD n d; rw [h]
@[simp] theorem State.raiseD_pwr_hibernating : (s.raiseD n d).pwr.hibernating = s.pwr.hibernating := by
  obtain ⟨_, _, _, _, _, h⟩ := s.asEvent_raiseD n d; rw [h]
@[simp] theorem State.raiseD_pwr_subsec : (s.raiseD n d).pwr.subsec = s.pwr.subsec := by
  obtain ⟨_, _, _, _, _, h⟩ := s.asEvent_raiseD n d; rw [h]
@[simp] theorem State.raiseD_pwr_wakePending : (s.raiseD n d).pwr.wakePending = s.pwr.wakePending := by
  obtain ⟨_, _, _, _, _, h⟩ := s.asEvent_raiseD n d; rw [h]
@[simp] theorem State.raise_pending : (s.raise n).pending = s.pending := State.raiseD_pending s n 0#32
@[simp] theorem State.raise_out : (s.raise n).out = s.out := State.raiseD_out s n 0#32
@[simp] theorem State.raise_fuses : (s.raise n).fuses = s.fuses := State.raiseD_fuses s n 0#32
@[simp] theorem State.raise_pins : (s.raise n).pins = s.pins := State.raiseD_pins s n 0#32
@[simp] theorem State.raise_time : (s.raise n).time = s.time := State.raiseD_time s n 0#32
@[simp] theorem State.raise_pour : (s.raise n).pour = s.pour := State.raiseD_pour s n 0#32
@[simp] theorem State.raise_beam : (s.raise n).beam = s.beam := State.raiseD_beam s n 0#32
@[simp] theorem State.raise_pipe : (s.raise n).pipe = s.pipe := State.raiseD_pipe s n 0#32
@[simp] theorem State.raise_temper : (s.raise n).temper = s.temper := State.raiseD_temper s n 0#32
@[simp] theorem State.raise_link : (s.raise n).link = s.link := State.raiseD_link s n 0#32
@[simp] theorem State.raise_seg : (s.raise n).seg = s.seg := State.raiseD_seg s n 0#32
@[simp] theorem State.raise_cru : (s.raise n).cru = s.cru := State.raiseD_cru s n 0#32
@[simp] theorem State.raise_tun : (s.raise n).tun = s.tun := State.raiseD_tun s n 0#32
@[simp] theorem State.raise_mbx : (s.raise n).mbx = s.mbx := State.raiseD_mbx s n 0#32
@[simp] theorem State.raise_cpu : (s.raise n).cpu = s.cpu := State.raiseD_cpu s n 0#32
@[simp] theorem State.raise_nv : (s.raise n).nv = s.nv := State.raiseD_nv s n 0#32
@[simp] theorem State.raise_cal : (s.raise n).cal = s.cal := State.raiseD_cal s n 0#32
@[simp] theorem State.raise_port0 : (s.raise n).port0 = s.port0 := State.raiseD_port0 s n 0#32
@[simp] theorem State.raise_port1 : (s.raise n).port1 = s.port1 := State.raiseD_port1 s n 0#32
@[simp] theorem State.raise_fw_started : (s.raise n).fw.started = s.fw.started := State.raiseD_fw_started s n 0#32
@[simp] theorem State.raise_fw_lamp : (s.raise n).fw.lamp = s.fw.lamp := State.raiseD_fw_lamp s n 0#32
@[simp] theorem State.raise_fw_leaving : (s.raise n).fw.leaving = s.fw.leaving := State.raiseD_fw_leaving s n 0#32
@[simp] theorem State.raise_fw_entering : (s.raise n).fw.entering = s.fw.entering := State.raiseD_fw_entering s n 0#32
@[simp] theorem State.raise_fw_restart : (s.raise n).fw.restart = s.fw.restart := State.raiseD_fw_restart s n 0#32
@[simp] theorem State.raise_fw_burstDue : (s.raise n).fw.burstDue = s.fw.burstDue := State.raiseD_fw_burstDue s n 0#32
@[simp] theorem State.raise_fw_fade : (s.raise n).fw.fade = s.fw.fade := State.raiseD_fw_fade s n 0#32
@[simp] theorem State.raise_fw_cuts : (s.raise n).fw.cuts = s.fw.cuts := State.raiseD_fw_cuts s n 0#32
@[simp] theorem State.raise_fw_entered : (s.raise n).fw.entered = s.fw.entered := State.raiseD_fw_entered s n 0#32
@[simp] theorem State.raise_fw_ingotStale : (s.raise n).fw.ingotStale = s.fw.ingotStale := State.raiseD_fw_ingotStale s n 0#32
@[simp] theorem State.raise_fw_items : (s.raise n).fw.items = s.fw.items := State.raiseD_fw_items s n 0#32
@[simp] theorem State.raise_fw_requests : (s.raise n).fw.requests = s.fw.requests := State.raiseD_fw_requests s n 0#32
@[simp] theorem State.raise_fw_outbox : (s.raise n).fw.outbox = s.fw.outbox := State.raiseD_fw_outbox s n 0#32
@[simp] theorem State.raise_fw_repliesLost : (s.raise n).fw.repliesLost = s.fw.repliesLost := State.raiseD_fw_repliesLost s n 0#32
@[simp] theorem State.raise_fw_discarded : (s.raise n).fw.discarded = s.fw.discarded := State.raiseD_fw_discarded s n 0#32
@[simp] theorem State.raise_fw_inbox : (s.raise n).fw.inbox = s.fw.inbox := State.raiseD_fw_inbox s n 0#32
@[simp] theorem State.raise_fw_arrival : (s.raise n).fw.arrival = s.fw.arrival := State.raiseD_fw_arrival s n 0#32
@[simp] theorem State.raise_fw_hmbIn : (s.raise n).fw.hmbIn = s.fw.hmbIn := State.raiseD_fw_hmbIn s n 0#32
@[simp] theorem State.raise_fw_ctlFrames : (s.raise n).fw.ctlFrames = s.fw.ctlFrames := State.raiseD_fw_ctlFrames s n 0#32
@[simp] theorem State.raise_fw_ingotXfer : (s.raise n).fw.ingotXfer = s.fw.ingotXfer := State.raiseD_fw_ingotXfer s n 0#32
@[simp] theorem State.raise_fw_fwXfer : (s.raise n).fw.fwXfer = s.fw.fwXfer := State.raiseD_fw_fwXfer s n 0#32
@[simp] theorem State.raise_fw_xferClosed : (s.raise n).fw.xferClosed = s.fw.xferClosed := State.raiseD_fw_xferClosed s n 0#32
@[simp] theorem State.raise_fw_statusSeq : (s.raise n).fw.statusSeq = s.fw.statusSeq := State.raiseD_fw_statusSeq s n 0#32
@[simp] theorem State.raise_fw_statusDropped : (s.raise n).fw.statusDropped = s.fw.statusDropped := State.raiseD_fw_statusDropped s n 0#32
@[simp] theorem State.raise_fw_lastPourNs : (s.raise n).fw.lastPourNs = s.fw.lastPourNs := State.raiseD_fw_lastPourNs s n 0#32
@[simp] theorem State.raise_fw_silenceFrom : (s.raise n).fw.silenceFrom = s.fw.silenceFrom := State.raiseD_fw_silenceFrom s n 0#32
@[simp] theorem State.raise_fw_injectId : (s.raise n).fw.injectId = s.fw.injectId := State.raiseD_fw_injectId s n 0#32
@[simp] theorem State.raise_fw_test : (s.raise n).fw.test = s.fw.test := State.raiseD_fw_test s n 0#32
@[simp] theorem State.raise_fw_servo : (s.raise n).fw.servo = s.fw.servo := State.raiseD_fw_servo s n 0#32
@[simp] theorem State.raise_fw_bootCount : (s.raise n).fw.bootCount = s.fw.bootCount := State.raiseD_fw_bootCount s n 0#32
@[simp] theorem State.raise_fw_tseg : (s.raise n).fw.tseg = s.fw.tseg := State.raiseD_fw_tseg s n 0#32
@[simp] theorem State.raise_fw_litSaved : (s.raise n).fw.litSaved = s.fw.litSaved := State.raiseD_fw_litSaved s n 0#32
@[simp] theorem State.raise_fw_loads : (s.raise n).fw.loads = s.fw.loads := State.raiseD_fw_loads s n 0#32
@[simp] theorem State.raise_fw_tablesDue : (s.raise n).fw.tablesDue = s.fw.tablesDue := State.raiseD_fw_tablesDue s n 0#32
@[simp] theorem State.raise_fw_darkSlices : (s.raise n).fw.darkSlices = s.fw.darkSlices := State.raiseD_fw_darkSlices s n 0#32
@[simp] theorem State.raise_fw_hibernate : (s.raise n).fw.hibernate = s.fw.hibernate := State.raiseD_fw_hibernate s n 0#32
@[simp] theorem State.raise_pwr_dma : (s.raise n).pwr.dma = s.pwr.dma := State.raiseD_pwr_dma s n 0#32
@[simp] theorem State.raise_pwr_trans : (s.raise n).pwr.trans = s.pwr.trans := State.raiseD_pwr_trans s n 0#32
@[simp] theorem State.raise_pwr_stepTrans : (s.raise n).pwr.stepTrans = s.pwr.stepTrans := State.raiseD_pwr_stepTrans s n 0#32
@[simp] theorem State.raise_pwr_volt : (s.raise n).pwr.volt = s.pwr.volt := State.raiseD_pwr_volt s n 0#32
@[simp] theorem State.raise_pwr_avsJob : (s.raise n).pwr.avsJob = s.pwr.avsJob := State.raiseD_pwr_avsJob s n 0#32
@[simp] theorem State.raise_pwr_drains : (s.raise n).pwr.drains = s.pwr.drains := State.raiseD_pwr_drains s n 0#32
@[simp] theorem State.raise_pwr_pendingReq : (s.raise n).pwr.pendingReq = s.pwr.pendingReq := State.raiseD_pwr_pendingReq s n 0#32
@[simp] theorem State.raise_pwr_done : (s.raise n).pwr.done = s.pwr.done := State.raiseD_pwr_done s n 0#32
@[simp] theorem State.raise_pwr_tickets : (s.raise n).pwr.tickets = s.pwr.tickets := State.raiseD_pwr_tickets s n 0#32
@[simp] theorem State.raise_pwr_saving : (s.raise n).pwr.saving = s.pwr.saving := State.raiseD_pwr_saving s n 0#32
@[simp] theorem State.raise_pwr_hibernating : (s.raise n).pwr.hibernating = s.pwr.hibernating := State.raiseD_pwr_hibernating s n 0#32
@[simp] theorem State.raise_pwr_subsec : (s.raise n).pwr.subsec = s.pwr.subsec := State.raiseD_pwr_subsec s n 0#32
@[simp] theorem State.raise_pwr_wakePending : (s.raise n).pwr.wakePending = s.pwr.wakePending := State.raiseD_pwr_wakePending s n 0#32

/-- A conditional operation that leaves a register alone. -/
theorem State.when_rd {a : Nat} (s : State) (c : Bool) (f : State → State) (h : ∀ s : State, (f s).rd a = s.rd a) :
    (s.when c f).rd a = s.rd a := by
  cases c
  · rfl
  · exact h s

/-- Ringing the doorbell of a route changes one of the four doorbell registers. -/
theorem State.ring_rd (s : State) (n : Nat) {a : Nat} (hd : ∀ t, t < 4 → a ≠ aOf.mbxDbstat t) : (s.ring n).rd a = s.rd a := by
  have hr : s.routeOf n < 2 ^ 8 := by unfold State.routeOf State.f fld; exact Nat.mod_lt _ (by decide)
  unfold State.ring State.dbSet
  exact State.wr_rd_ne _ _ (hd _ (by omega))

/-- The latch of an event as one operation after another. -/
theorem State.raiseD_of (h : s.domLive pdCtrl = true) (he : s.evSet n = false) :
    s.raiseD n d = ((((s.wr (aOf.evtTime n) (s.stampOf (fromAon n))).drawn.setBit (aOf.evtStat (n / 32)) (n % 32) true).when
      ((((s.wr (aOf.evtTime n) (s.stampOf (fromAon n))).drawn.setBit (aOf.evtStat (n / 32)) (n % 32) true)).evEn n) (·.ring n)).logLatch n d) := by
  unfold State.raiseD
  rw [h, he]
  rfl

/-- An event that finds its status set, or PD_CTRL without power, changes nothing. -/
theorem State.raiseD_none (h : s.domLive pdCtrl = false ∨ s.evSet n = true) : s.raiseD n d = s := by
  unfold State.raiseD
  rcases h with h | h <;> simp [h]

/-- The registers an event can change: its status, its stamp, a doorbell and the length of the retention tail. -/
theorem State.raiseD_rd {a : Nat} (hs : a ≠ aOf.evtStat (n / 32)) (ht : a ≠ aOf.evtTime n) (hp : a ≠ aOf.pwrPfstat)
    (hd : ∀ t, t < 4 → a ≠ aOf.mbxDbstat t) : (s.raiseD n d).rd a = s.rd a := by
  by_cases h : s.domLive pdCtrl = true ∧ s.evSet n = false
  · rw [State.raiseD_of s n d h.1 h.2, State.logLatch, State.when_rd _ _ _ (fun s => State.logPush_rd s _ hp),
      State.when_rd _ _ _ (fun s => State.ring_rd s _ hd), State.setBit, State.setF_rd_ne _ _ _ _ hs, State.drawn_rd,
      State.wr_rd_ne _ _ ht]
  · rw [State.raiseD_none s n d]
    rcases hd : s.domLive pdCtrl <;> rcases he : s.evSet n <;> simp_all

/-- The tail's length stands beside every register an event's status, stamp and doorbells are in. -/
theorem State.logLatch_rd {a : Nat} (hp : a ≠ aOf.pwrPfstat) : (s.logLatch n d).rd a = s.rd a :=
  State.when_rd _ _ _ (fun s => State.logPush_rd s _ hp)

/-- The status word of an event that occurs gains its bit. -/
theorem State.raiseD_stat (hn : n < 1024) (h : s.domLive pdCtrl = true) (he : s.evSet n = false) :
    (s.raiseD n d).rd (aOf.evtStat (n / 32)) = setFld (s.rd (aOf.evtStat (n / 32))) (n % 32) 1 1 := by
  rw [State.raiseD_of s n d h he, State.logLatch_rd _ _ _ (by simp [aOf.evtStat, aOf.pwrPfstat]; omega),
    State.when_rd _ _ _ (fun s => State.ring_rd s _ (by intro t ht; simp [aOf.evtStat, aOf.mbxDbstat]; omega)), State.setBit,
    State.setF_rd_self, State.drawn_rd, State.wr_rd_ne _ _ (by simp [aOf.evtStat, aOf.evtTime]; omega)]
  rfl

/-- The stamp of an event that occurs. -/
theorem State.raiseD_stamp (hn : n < 1024) (h : s.domLive pdCtrl = true) (he : s.evSet n = false) :
    (s.raiseD n d).rd (aOf.evtTime n) = s.stampOf (fromAon n) := by
  rw [State.raiseD_of s n d h he, State.logLatch_rd _ _ _ (by simp [aOf.evtTime, aOf.pwrPfstat]; omega),
    State.when_rd _ _ _ (fun s => State.ring_rd s _ (by intro t ht; simp [aOf.evtTime, aOf.mbxDbstat]; omega)), State.setBit,
    State.setF_rd_ne _ _ _ _ (by simp [aOf.evtStat, aOf.evtTime]; omega), State.drawn_rd, State.wr_rd_self]

/-- After an event has occurred its status is set. -/
theorem State.raiseD_evSet (hn : n < 1024) (h : s.domLive pdCtrl = true) : (s.raiseD n d).evSet n = true := by
  cases he : s.evSet n
  · unfold State.evSet State.bit State.f
    rw [State.raiseD_stat s n d hn h he, fld_setFld_self _ _ (by omega)]
    rfl
  · rw [State.raiseD_none s n d (.inr he), he]

/-- Another event's status stands. -/
theorem State.raiseD_evSet_ne (hn : n < 1024) {m : Nat} (hm : m < 1024) (hne : m ≠ n) : (s.raiseD n d).evSet m = s.evSet m := by
  by_cases h : s.domLive pdCtrl = true ∧ s.evSet n = false
  · unfold State.evSet State.bit State.f
    by_cases hw : m / 32 = n / 32
    · rw [hw, State.raiseD_stat s n d hn h.1 h.2, fld_setFld_ne _ _ (by omega) (by omega)]
    · rw [State.raiseD_rd s n d (by simp [aOf.evtStat]; omega) (by simp [aOf.evtStat, aOf.evtTime]; omega)
        (by simp [aOf.evtStat, aOf.pwrPfstat]; omega) (by intro t ht; simp [aOf.evtStat, aOf.mbxDbstat]; omega)]
  · rw [State.raiseD_none s n d]
    rcases hd : s.domLive pdCtrl <;> rcases he : s.evSet n <;> simp_all

/-- An event leaves the power domains as they are. -/
@[simp] theorem State.raiseD_dstate {k : Nat} (hn : n < 1024) (hk : k < 12) : (s.raiseD n d).dstate k = s.dstate k := by
  unfold State.dstate State.f
  rw [State.raiseD_rd s n d (by simp [aOf.evtStat, aOf.pwrVote]; omega) (by simp [aOf.pwrVote, aOf.evtTime]; omega)
    (by simp [aOf.pwrVote, aOf.pwrPfstat]; omega) (by intro t ht; simp [aOf.pwrVote, aOf.mbxDbstat]; omega)]

end Raise

end Sys2Proof.Machine
end

