-- ==== Sys2Proof/Tests/Slice0.lean ====
section
/-! SUPPORT. Tests of the model: ill-formed commands are refused, and for every statement with hypotheses a state and
operands that meet them, clause by clause, with the effect the clause gives there. Each test is one step on a small state. -/

namespace Sys2Proof.Tests

-- one theorem after the other, so that the tests need one thread
set_option Elab.async false

open Sys2Proof Sys2Proof.Machine

/-! ### States -/

/-- The state after a command; the state itself where it does not answer one. -/
def after (c : Instr) (s : State) : State :=
  match exec c s with
  | .next t => t
  | _ => s

/-- PWR_VOTE of a domain that is ON and voted for. -/
def onWord : Word := BitVec.ofNat 32 (2 * 2 ^ 24 + 8)

/-- Every domain ON, both host ports up, firmware running. Every event is latched already, so that no test waits on the
free value a stamp takes. -/
def lit : State :=
  { State.reset with
      regs := (List.range' 4 7).map (fun d => (aOf.pwrVote d, onWord)) ++
        (List.range 32).map (fun i => (aOf.evtStat i, 0xFFFFFFFF#32))
      fw := { Firmware.reset with started := true }
      port0 := { HostPort.reset with up := true, inReset := false }
      port1 := { HostPort.reset with up := true, inReset := false } }

/-- The same with the lamp LIT. -/
def shining : State := { lit with fw := { lit.fw with lamp := .lit } }

/-- A frame on a port. -/
def rx (etherType : BitVec 16) (body : RxBody) : RxFrame :=
  { srcMac := 0x0200_5E00_0001#48, tags := [], etherType := etherType, subtype := 0x6F#8, version := 0#3, sv := true
    streamId := 0#64, body := body }

/-- A request over port 0. -/
def ask (ws : List Word) : Msg :=
  { route := .port .p0, mac := 0x0200_5E00_0001#48, vlan := none, seq := 0x11#8, gen := 0#4, urgent := false, reply := false
    rsvd := false, ws := ws }

/-- A pour header, of a WRITE_RECT until a command names another opcode. -/
def hdr (target format : Nat) (last : Bool) (w2 w3 : Nat) (bs : List Byte) : PourHdr :=
  { version := 1#8, opcode := 0x01#8, pourId := 7#16, target := BitVec.ofNat 8 target
    format := BitVec.ofNat 8 format, flags := BitVec.ofNat 16 (b2n last), w2 := BitVec.ofNat 32 w2, w3 := BitVec.ofNat 32 w3, seq := 5#32, offset := 0#32
    fragLen := BitVec.ofNat 16 bs.length, fragIdx := 0#16, crc := crc32c bs }

/-- A fragment on port 0. -/
def frag (h : PourHdr) (bs : List Byte) : PourFrag := { port := .p0, tv := false, stamp := 0#32, hdr := h, payload := bs }

/-- A pour in flight. -/
def pourIn (op : PourOp) (h : PourHdr) (bs : List Byte) (complete : Bool) (phase : PourPhase) : Pour :=
  { key := ⟨false, h.pourId⟩, op := op, port := .p0, hdr := { h with opcode := op.code }, launch := none, payload := bs, nextIdx := 1, complete := complete
    seenDue := false, late := false, phase := phase, slots := 0, tiles := [], slotOf := [], merges := [], undo := [], undoFok := none
    frame := none }

/-- The same with pours in flight. -/
def flying (ps : List Pour) : State := { lit with pour := { lit.pour with flight := ps } }

/-- Registers set in a state. -/
def put (s : State) (l : List (Nat × Word)) : State := l.foldl (fun s e => s.wr e.1 e.2) s

/-! ### Well-formedness refuses -/

theorem test_wf_registerWrite : (Instr.registerWrite .cp0 0x40010002 0#32).wf = false := by decide +kernel
theorem test_wf_frameReceive :
    (Instr.frameReceive .p0 .good (rx 0x22F0#16 (.vsf 0#8 (frag (hdr 0 0x10 false 0 0 [1#8]) [])))).wf = false := by
  decide +kernel
theorem test_wf_pour : (Instr.writeRect (frag (hdr 0 0x10 false 0 0 [1#8]) [])).wf = false := by decide +kernel
theorem test_wf_tileMerge : (Instr.tileMerge ⟨false, 0#16⟩ 65536 []).wf = false := by decide +kernel
theorem test_wf_lineScan : (Instr.lineScan 1024 .clean).wf = false ∧ (Instr.lineScan 0 (.uncorrectable 0x2000000)).wf = false ∧
    (Instr.lineScan 0 (.corrected 0x2000000)).wf = false := by
  decide +kernel
theorem test_wf_tileRowUpdate : (Instr.tileRowUpdate 128 []).wf = false := by decide +kernel
theorem test_wf_eyeScanEnd : (Instr.eyeScanEnd 0 256 0).wf = false := by decide +kernel
theorem test_wf_segmentSlot : (Instr.segmentSlot [⟨104, false, false⟩]).wf = false := by decide +kernel
theorem test_wf_crucibleWindowAccess : (Instr.crucibleWindowAccess .cp0 2 none .clean false).wf = false := by decide +kernel
theorem test_wf_scrubRead : (Instr.scrubRead 4 .clean).wf = false ∧ (Instr.scrubRead 8 (.corrected 72)).wf = false := by decide +kernel
theorem test_wf_bankRetire : (Instr.bankRetire 128 0).wf = false ∧ (Instr.retirementQueuedStart 9).wf = false := by decide +kernel
theorem test_wf_tundishBatch : (Instr.tundishBatch [⟨.cp0, 131072, .read, .clean⟩]).wf = false ∧
    (Instr.tundishBatch [⟨.cp0, 64, .lockRead, .clean⟩]).wf = false := by decide +kernel
theorem test_wf_marchRun : (Instr.marchRun 0 128 true).wf = false := by decide +kernel
theorem test_wf_arbTargetWrite : (Instr.arbTargetWrite .cp0 33).wf = false := by decide +kernel
theorem test_wf_debugWindow : (Instr.debugWindowRead 2 false).wf = false ∧ (Instr.debugWindowWrite (2 ^ 24) 0#32).wf = false := by
  decide +kernel
theorem test_wf_spiStatus : (Instr.spiStatus (.unknown 0x05#8)).wf = false := by decide +kernel
theorem test_wf_nvRead : (Instr.nvRead (ask []) [(0x100000, .corrected)]).wf = false := by decide +kernel
theorem test_wf_eventSoftwareSet : (Instr.eventSoftwareSet 1024).wf = false := by decide +kernel
theorem test_wf_pwrReq : (Instr.pwrReqState .cp0 8 0).wf = false ∧ (Instr.pwrReqOp .cp0 0 8).wf = false := by decide +kernel
theorem test_wf_dmaTransfer : (Instr.dmaTransfer ⟨1, 0, 4, []⟩).wf = false := by decide +kernel
theorem test_wf_nvUnitWrite : (Instr.nvUnitWrite .cp0 32768).wf = false := by decide +kernel
theorem test_wf_nvWindowRead : (Instr.nvWindowRead .cp0 0x100000 .clean).wf = false := by decide +kernel
theorem test_wf_adcSchedule : (Instr.adcSchedule ⟨[], []⟩).wf = false := by decide +kernel

/-! ### Steps and shared rules -/

theorem test_step_front : ({ lit with pending := [.heartbeat] } : State).pending = [.heartbeat] ∧
    (match step { lit with pending := [.heartbeat] } with | .next t => t.dbBits 0 == 0x80000000#32 && t.pending.isEmpty | _ => false)
      = true := by decide +kernel
theorem test_memory_wf : Memory.wf lit = true ∧
    (match step { lit with pending := [.heartbeat] } with | .next _ => true | _ => false) = true := by decide +kernel
theorem test_frame_of_heartbeat : familyOf .heartbeat = .mailbox ∧ Instr.heartbeat.wf = true ∧
    frameOf .heartbeat = some ([], [.mbxDbstat]) := by decide +kernel
/-- Every family has a well-formed command with a frame. -/
theorem test_frames : (([.phyWake .p0, .adjustEnd, .syncReceiptTimeout, .fenceComplete, .pourResultPop, .poisonHalt, .temperTick,
    .blockLockGain 0, .vlcdFault, .scrubPassEnd, .marchEnd, .takeover, .heartbeat, .streamLoss, .pfail, .nvLock, .adcTrimUpdate,
    .cruUeRead] : List Instr).all (fun c => c.wf && (frameOf c).isSome &&
      (match exec c lit with | .next _ => true | _ => false))) = true := by decide +kernel
theorem test_crucible_bytes_stand : Instr.scrubRead 0 (.corrected 3) ∈ ([.scrubRead 0 (.corrected 3)] : List Instr) ∧
    (after (.scrubRead 0 (.corrected 3)) (lit.setBit aOf.fetCtrl 0 true)).cruByte 0 = lit.cruByte 0 := by decide +kernel
theorem test_event : State.reset.domLive pdCtrl = true ∧ State.reset.evSet 0 = false ∧ State.reset.evSet 1023 = false ∧
    lit.evSet 0 = true ∧ lit.raiseD 1023 0#32 = lit ∧ (lit.setF (aOf.pwrVote 1) 24 3 0).domLive pdCtrl = false ∧
    (lit.setF (aOf.pwrVote 1) 24 3 3).domLive pdCtrl = true := by decide +kernel
theorem test_event_latched : (State.reset.raiseD 1023 0#32).evSet 1023 = true ∧ (State.reset.raiseD 1023 0#32).evSet 1022 = false := by
  refine ⟨State.raiseD_evSet _ _ _ (by decide) (by decide), ?_⟩
  rw [State.raiseD_evSet_ne _ _ _ (by decide) (by decide) (by decide)]
  decide
theorem test_reply : ((ask []).gen.toNat = lit.gen 0) ∧ lit.answersNow (ask []) 2 = true ∧
    (lit.reply 0x10#8 (ask []) 2 0 []).out = [lit.replyTo 0x10#8 (ask []) 2 0 []] ∧
    (lit.reply 0x10#8 { ask [] with gen := 1#4 } 2 0 []) = lit ∧
    ({ lit with port0 := HostPort.reset }.reply 0x10#8 (ask []) 2 0 []).fw.repliesLost = 1 := by decide +kernel
theorem test_mask_gate :
    let m : Mask := { verts := [(0, 0), (64, 0), (64, 64), (0, 64)], depth := 255, soft := 0, ttl := 0, remaining := 0, valid := true, offsetEn := false, ended := false }
    let s := lit.setMask 3 m
    (3, m) ∈ s.beam.masks ∧ m.inForce = true ∧ s.gate (0, 0) ≤ 65536 := by decide +kernel
theorem test_ntc : let s := ({ lit with cal := { lit.cal with ntcSeen := [(1, 1)] } }).wr (aOf.calAin 1) 4095#32
    s.f (aOf.calAin 1) 0 12 = 4095 ∧ s.ntcReading 1 = some (s.ntcTemp 4095) := by decide +kernel

/-! ### Registers and time -/

theorem test_register_write :
    lit.canAccess aOf.pipeOdth0 = true ∧ lit.plainReg .cp0 aOf.pipeOdth0 1#32 = true ∧ (regRow aOf.pipeOdth0).isSome = true ∧
    (after (.registerWrite .cp0 aOf.pipeOdth0 1#32) lit).rd aOf.pipeOdth0 = 1#32 := by decide +kernel
theorem test_register_write_denied :
    let s := { lit with fuses := { lit.fuses with lifecycle := .production } }
    s.alive = true ∧ aOf.pipeOdth0 ≠ aOf.mbxDbmask 0 ∧
    (after (.registerWrite .spi aOf.pipeOdth0 1#32) s).rd aOf.pipeOdth0 = s.rd aOf.pipeOdth0 := by decide +kernel
/-- Every clearing read reaches its register. -/
theorem test_clear_on_read :
    ([aOf.pourResstat, aOf.pourErrcnt, aOf.pipeErrcnt, aOf.tmpErrcnt, aOf.laneErr 63, aOf.laneErr2 0, aOf.lanePrbs 63, aOf.laneAlm1 0,
      aOf.timeTxq2 1, aOf.cruUe, aOf.tunEcc, aOf.mbxCnt 3, aOf.pwrDone, aOf.nvcStat, aOf.nvcWear, aOf.nvcEcc].all lit.canAccess) = true ∧
    (after .pourErrcntRead (lit.wr aOf.pourErrcnt 0x00050006#32)).out = [.data 0x00050006#32] ∧
    (after .pourErrcntRead (lit.wr aOf.pourErrcnt 0x00050006#32)).rd aOf.pourErrcnt = 0#32 := by decide +kernel
theorem test_time_set :
    lit.canAccess aOf.timeSet = true ∧ lit.bit aOf.timeFctrl 0 = false ∧ lit.fwRuns = true ∧
    (after (.timeSet 500#32) lit).time.ns = 500#32 ∧ (after (.timeSet 500#32) lit).nowExt = lit.nowExt ∧
    (lit.setBit aOf.timeFctrl 0 true).bit aOf.timeFctrl 0 = true ∧
    (after (.timeSet 500#32) (lit.setBit aOf.timeFctrl 0 true)).evSet 67 = true := by decide +kernel
theorem test_time_registers :
    lit.canAccess aOf.timeNs = true ∧ lit.canAccess aOf.timeAdj = true ∧
    (after (.timeAdj 2000#32) lit).time.capped = true ∧ (after (.timeAdj 2000#32) lit).evSet 66 = true ∧
    (after (.timeAdj 1000#32) lit).time.capped = false ∧ (after (.timeAdj 1000#32) lit).time.adjRem = 1000 * 2 ^ 48 := by decide +kernel
theorem test_time_passes :
    lit.alive = true ∧ lit.domLive pdCtrl = true ∧ (after (.timeAdj 1000#32) lit).time.adjRem ≠ 0 ∧
    (after (.timeAdj 1000#32) lit).domLive pdCtrl = true ∧ lit.time.adjRem = 0 ∧ (after .timeNsWrap lit).time.wrap = 1#32 ∧
    (after .adjustEnd (after (.timeAdj 1000#32) lit)).time.adjRem = 0 ∧ lit.pending = [] := by decide +kernel
theorem test_frame_edges :
    lit.canAccess aOf.timeFctrl = true ∧ (after .frameEdgesEnable lit).time.running = true ∧
    (lit.setBit aOf.timeFctrl 0 true).canAccess aOf.timeFctrl = true ∧
    (after .frameEdgesDisable (lit.setBit aOf.timeFctrl 0 true)).bit aOf.timeFctrl 0 = false ∧
    lit.canAccess aOf.timePeriod = true ∧ (after (.periodWrite 0x2000001#32) lit).f aOf.timePeriod 0 25 = 1 := by decide +kernel
/-- A period of firmware gives way to a Temper step's (R182). -/
theorem test_period_given_up :
    let o : TemperStep := { shed := false, op := 1, ticket := 0, loaded := false }
    let s := (lit.setBit aOf.timeFctrl 0 true)
    let d := { s with temper := { s.temper with step := some o }, time := { s.time with pendPeriod := some 16000000 } }
    let p := { s with time := { s.time with pendPeriod := some 8000000, pendTemper := true } }
    d.canAccess aOf.timeFctrl = true ∧ d.bit aOf.timeFctrl 0 = true ∧ d.time.pendPeriod ≠ none ∧ d.time.pendTemper = false ∧
    (after .frameEdgesDisable d).f aOf.timePeriod 0 25 = d.stepNs o ∧ (after .frameEdgesDisable d).bit aOf.timeFctrl 30 = true ∧
    p.canAccess aOf.timePeriod = true ∧ p.bit aOf.timeFctrl 0 = true ∧ p.time.pendTemper = true ∧
    (after (.periodWrite 16000000#32) p).time.pendPeriod = some 8000000 ∧ (after (.periodWrite 16000000#32) p).bit aOf.timeFctrl 30 = true ∧
    s.time.pendTemper = false ∧ (after (.periodWrite 16000000#32) s).time.pendPeriod = some 16000000 := by decide +kernel
theorem test_stamps :
    lit.canAccess (aOf.timeTxq2 0) = true ∧ lit.domLive pdCtrl = true ∧ lit.f aOf.timeSynccfg 0 2 = 0 ∧ after (.syncPinEdge 0 true) lit = lit ∧
    (lit.setF aOf.timeSynccfg 6 2 2).f aOf.timeSynccfg 6 2 = 2 ∧ (lit.setF aOf.timeSynccfg 6 2 3).f aOf.timeSynccfg 6 2 = 3 ∧
    (lit.setF aOf.timeSynccfg 6 2 1).f aOf.timeSynccfg 6 2 = 1 := by decide +kernel


/-! ### Host ports and pours -/

/-- A fragment that is the whole of a pour. -/
def whole (target format w2 w3 : Nat) (bs : List Byte) : PourFrag := frag (hdr target format true w2 w3 bs) bs

theorem test_frames_received :
    let g := rx 0x88F7#16 (.gptp [1#8])
    let v := rx 0x22F0#16 (.vsf 0#8 (whole 0 0x10 0 0x10001 [0#8, 1#8]))
    let m := rx 0x888E#16 (.macsecCtl [2#8])
    let on := lit.setBit aOf.pourCtrl 0 true
    let two := { m with tags := [1#16, 2#16] }
    let one := { m with tags := [2#16] }
    lit.portOn .p0 = true ∧ (lit.hostPort .p0).up = true ∧ lit.portOn .p1 = true ∧ (lit.hostPort .p1).up = true ∧
    ((after (.frameReceive .p0 .good g) lit).hostPort .p0).gptp.length = 1 ∧
    isVsf v = true ∧ on.domOn pdPipe = true ∧ on.pourTest .p0 v = true ∧ on.portOn .p0 = true ∧
    (after (.frameReceive .p0 .good v) on).pour.ingress.length = 1 ∧
    (after (.frameReceive .p0 .good m) lit).fw.ctlFrames.map (·.1) = [[2#8]] ∧
    (after (.frameReceive .p0 .good m) lit).out = [.notify 0] ∧ one.tags.length ≤ 1 ∧
    (after (.frameReceive .p0 .good one) lit).fw.ctlFrames.length = 1 ∧ 1 < two.tags.length ∧
    (after (.frameReceive .p0 .good two) lit).fw.ctlFrames = [] ∧ ((after (.frameReceive .p0 .good two) lit).hostPort .p0).drops = 1 ∧
    ((after (.frameReceive .p0 .good (rx 0x22F0#16 (.ntscf []))) lit).hostPort .p0).drops = 1 ∧
    ((after (.frameReceive .p1 .good (rx 0#16 .other)) lit).hostPort .p1).drops = 1 ∧
    lit.domOn pdCtrl = true ∧ (after (.frameReceive .p0 .badFcs v) lit).pour = lit.pour ∧
    (after (.macsecControlFrame .p0 .good [3#8]) lit).fw.ctlFrames.map (·.1) = [[3#8]] := by decide +kernel
theorem test_pour_frame_dark_pipe :
    let s := lit.setF (aOf.pwrVote 4) 24 3 0
    let v := rx 0x22F0#16 (.vsf 0#8 (whole 0 0x10 0 0x10001 [0#8, 1#8]))
    s.portOn .p0 = true ∧ (s.hostPort .p0).up = true ∧ isVsf v = true ∧ s.domOn pdPipe = false ∧
    ((after (.frameReceive .p0 .good v) s).hostPort .p0).drops = 1 := by decide +kernel
theorem test_port_events :
    let e : TxStamp := { ns := 0#32, frac := 0#8, tag := 0#16 }
    let full := { lit with time := { lit.time with txq0 := List.replicate 16 e } }
    lit.portOn .p0 = true ∧ (lit.hostPort .p0).up = true ∧
    (after (.hostFrameTransmit .p0 none false) lit).out = [.frame .p0] ∧
    (lit.txq .p0).length < 16 ∧ ((after (.hostFrameTransmit .p0 (some ⟨2#4, 5#12⟩) false) lit).txq .p0).length = 1 ∧
    full.portOn .p0 = true ∧ (full.hostPort .p0).up = true ∧ 16 ≤ (full.txq .p0).length ∧
    ((after (.hostFrameTransmit .p0 (some ⟨2#4, 5#12⟩) true) full).txq .p0).length = 16 ∧
    ((after (.link .p0 .down) lit).hostPort .p0).up = false ∧ lit.alive = true ∧ lit.part.hasPort .p1 = true ∧
    lit.domOn (pdHost .p1) = true := by decide +kernel

/-- A pour of each opcode that is taken, in the order of the statement. -/
def firsts : List (PourOp × PourFrag) :=
  [(.writeRect, whole 0 0x10 0x00070007 0x00010001 [0x12#8, 0x34#8]), (.fillRect, whole 0 0x10 0 0x00080008 [0#8, 0#8, 1#8, 2#8]),
   (.maskSet, whole 0 0 0 0x00010000 (List.replicate 24 0#8)), (.maskClear, whole 0 0 0x00FF0000 0x00010000 []),
   (.patternWrite, whole 0 0x10 0 2 [1#8, 2#8]), (.glyphWrite, whole 0 0x08 0 4 [1#8, 2#8, 3#8, 4#8]),
   (.layerSet, whole 0 0 0x000F0000 0x00010000 (List.replicate 8 0#8)), (.meshWrite, whole 3 0 0 0x00010001 [0#8, 0#8, 0#8, 0#8]),
   (.tableWrite, whole 4 0 0 4 [0#8, 0#8, 0#8, 0#8]), (.segWrite, whole 0 0x04 0 0x00010001 [5#8]),
   (.fence, whole 0 0 0 0 []), (.abort, frag (hdr 0 0 false 0x00090000 0 []) [])]

theorem test_pours_taken : (firsts.all (fun x => lit.takesPour x.1 x.2)) = true := by decide +kernel
theorem test_pour_accepted :
    (firsts.map (fun x => x.1 == .maskSet && (maskRecords x.2.payload x.2.hdr.wd).all maskOk)).getD 2 false = true ∧
    (((after (.writeRect (whole 0 0x10 0x00070007 0x00010001 [0x12#8, 0x34#8])) lit).findPour ⟨false, 7#16⟩).map
      (fun p => (p.tiles, p.slots, p.complete))) = some ([0], 1, true) ∧
    (((after (.writeRect (whole 0 0x10 0x00070007 0x00020001 [0x12#8, 0x34#8, 0#8, 0#8])) lit).findPour ⟨false, 7#16⟩).map
      (fun p => (p.tiles, p.slots, p.complete))) = some ([0, 1], 2, true) ∧
    (((after (.fillRect (whole 0 0x10 0 0x00080008 [0#8, 0#8, 1#8, 2#8])) lit).findPour ⟨false, 7#16⟩).map
      (fun p => (p.tiles, p.slots, p.phase == .waiting))) = some ([0], 0, true) ∧
    (((after (.maskClear (whole 0 0 0x00FF0000 0x00010000 [])) lit).findPour ⟨false, 7#16⟩).map (fun p => p.phase == .armed)) =
      some true ∧ (after (.fence (whole 0 0 0 0 [])) lit).exp .p0 = some 6#32 := by decide +kernel

/-- A WRITE_RECT of two pixels whose first pixel has come, and its second fragment. -/
def half : Pour := pourIn .writeRect (hdr 0 0x10 false 0 0x00020001 [1#8, 2#8]) [1#8, 2#8] false .waiting
def rest2 : PourFrag :=
  frag { hdr 0 0x10 true 0 0x00020001 [3#8, 4#8] with fragIdx := 1#16, offset := 2#32, crc := crc32c [1#8, 2#8, 3#8, 4#8] } [3#8, 4#8]

theorem test_later_fragment :
    let s := flying [half]
    s.pourOn = true ∧ s.part.hasPort rest2.port = true ∧ s.refusing rest2.port = false ∧ rest2.hdr.fragIdx ≠ 0#16 ∧
    s.findPour ⟨false, 7#16⟩ = some half ∧ half.port = rest2.port ∧ half.complete = false ∧ rest2.hdr.good = true ∧
    rest2.hdr.fragIdx.toNat = half.nextIdx ∧ s.pour.ingress = [] ∧ sameHead rest2.hdr half.hdr = true ∧
    extentOk half.op rest2 half.payload.length = true ∧ crc32c (half.payload ++ rest2.payload) = rest2.hdr.crc ∧
    ((after (.pourFragment rest2) s).findPour ⟨false, 7#16⟩).map (fun p => (p.payload.length, p.nextIdx, p.complete)) =
      some (4, 2, true) ∧
    (after (.fragTimeout ⟨false, 7#16⟩) s).findPour ⟨false, 7#16⟩ = none ∧
    ((after (.fragTimeout ⟨false, 7#16⟩) s).pour.results.map (·.status)) = [7] := by decide +kernel
theorem test_orphan : lit.pour.flight = [] ∧ lit.refusing rest2.port = false ∧
    (after (.pourFragment rest2) lit).f aOf.pourErrcnt 16 16 = 1 := by decide +kernel
theorem test_abort :
    let f := frag { hdr 0 0 true 0x00090000 0 [] with pourId := 8#16 } []
    let q (phase : PourPhase) : Pour := { pourIn .patternWrite { hdr 0 0x10 true 0 2 [1#8, 2#8] with pourId := 9#16 } [1#8, 2#8] true phase with
      key := ⟨false, 9#16⟩ }
    (flying [q .waiting]).takesPour .abort f = true ∧ f.hdr.last = true ∧
    (flying [q .waiting]).findPour ⟨false, BitVec.ofNat 16 f.hdr.x0⟩ = some (q .waiting) ∧
    (after (.abortPour f) (flying [q .waiting])).findPour ⟨false, 9#16⟩ = none ∧
    (flying [q .copying]).takesPour .abort f = true ∧
    (after (.abortPour f) (flying [q .copying])).findPour ⟨false, 9#16⟩ = some (q .copying) ∧
    (after (.abortPour f) (flying [q .copying])).findPour ⟨false, 8#16⟩ = none := by decide +kernel

theorem test_tile_merge :
    let p := { pourIn .writeRect (hdr 0 0x10 true 0 0x00010001 [1#8, 2#8]) [1#8, 2#8] true .waiting with tiles := [0], merges := [0] }
    (flying [p]).pourOn = true ∧ (flying [p]).findPour ⟨false, 7#16⟩ = some p ∧ 0 ∈ p.merges ∧ (flying [p]).ahead ⟨false, 7#16⟩ = [] ∧
    ((after (.tileMerge ⟨false, 7#16⟩ 0 []) (flying [p])).findPour ⟨false, 7#16⟩).map (·.merges) = some [] := by decide +kernel
theorem test_store_copy :
    let p := pourIn .patternWrite (hdr 0 0x10 true 0 2 [1#8, 2#8]) [1#8, 2#8] true .copying
    let t := after .storeCopyEnd (flying [p])
    (flying [p]).copying = some p ∧ t.findPour p.key = none ∧ t.cruBytes 0 2 = [2#8, 1#8] := by decide +kernel
theorem test_table_write :
    let p (sw : Bool) (phase : PourPhase) (id : Nat) := pourIn .layerSet
      { hdr 0 0 true 0 0x00010000 (List.replicate 8 0#8) with flags := BitVec.ofNat 16 (1 + 4 * b2n sw), pourId := BitVec.ofNat 16 id }
      (List.replicate 8 0#8) true phase
    let s := flying [p false .waiting 7]
    let bad := pourIn .layerSet (hdr 0 0 true 0 0x00010000 (List.replicate 8 0xFF#8)) (List.replicate 8 0xFF#8) true .waiting
    s.storeHead = some (p false .waiting 7) ∧ s.findPour (p false .waiting 7).key = some (p false .waiting 7) ∧
    s.canWrite (p false .waiting 7) = true ∧ (p false .waiting 7).launch = none ∧ s.fw.loads = [] ∧
    (s.putChunks (!s.beam.setB) (tableChunks (p false .waiting 7))).tableOk (!s.beam.setB) (p false .waiting 7) = true ∧
    ((after .tablePourWrite s).findPour ⟨false, 7#16⟩).map (fun q => q.phase == .writing) = some true ∧
    (flying [bad]).canWrite bad = true ∧
    ((flying [bad]).putChunks (!s.beam.setB) (tableChunks bad)).tableOk (!s.beam.setB) bad = false ∧ bad.undo = [] ∧
    ((after .tablePourWrite (flying [bad])).pour.results.map (·.status)) = [2] ∧
    (flying [p false .writing 7]).storeHead = some (p false .writing 7) ∧
    ((after .tablePourWriteEnd (flying [p false .writing 7])).findPour ⟨false, 7#16⟩) = none ∧
    ((after .tablePourWriteEnd (flying [p true .writing 7])).findPour ⟨false, 7#16⟩).map (fun q => q.phase == .written) = some true := by
  decide +kernel
theorem test_sync_fence_result :
    let s := { lit with pour := { lit.pour with syncBusy := true } }
    let p := pourIn .fence (hdr 0 0 true 0 0 []) [] true .waiting
    s.pour.syncBusy = true ∧ (after (.setSyncEnd []) s).pour.syncBusy = false ∧
    (flying [p]).pour.flight.find? (fun q => q.holds && q.op == .fence) = some p ∧ (flying [p]).fenceReady p = true ∧
    (after .fenceComplete (flying [p])).findPour p.key = none ∧ (after .fenceComplete (flying [p])).pour.committed = [7#16] ∧
    (after .pourResultPop (after .fenceComplete (flying [p]))).pour.results = [] := by decide +kernel
theorem test_flush :
    let p := pourIn .patternWrite (hdr 0 0x10 true 0 2 [1#8, 2#8]) [1#8, 2#8] true .waiting
    let s := flying [p]
    let u := { lit with pour := { lit.pour with flushing := true } }
    s.pourOn = true ∧ s.pour.flushing = false ∧ (after .flush s).refusing .p0 = true ∧ (after .flush s).pour.flight = [] ∧
    u.pour.flight = [] ∧ (after .flushEnd u).pour.flushing = false ∧
    u.part.hasPort .p1 = true ∧ u.bit aOf.pourCtrl 1 = false ∧ (after (.streamEnable .p1) u).bit aOf.pourCtrl 1 = true := by
  decide +kernel

/-! ### Frames and the Temper engine -/

/-- A frame in S1 with the lamp LIT. -/
def scanning : State := { shining with pipe := { shining.pipe with active := true } }

theorem test_frame_edge :
    let s := { lit with time := { lit.time with running := true, nextK := 5#32, nextTe := 900#32 } }
    let t := after .frameStartEdge (s.setF (aOf.pwrVote 4) 24 3 0)
    s.alive = true ∧ s.domLive pdCtrl = true ∧ s.time.running = true ∧ s.domOn pdPipe = true ∧ t.time.lastK = 5#32 ∧
    t.time.nextK = 6#32 := by decide +kernel
theorem test_frame_launch :
    let s := { scanning with fw := { scanning.fw with requests := [scanning.heldFor 0x21#8 (ask []) (.launch 0#32)] } }
    s.pourOn = true ∧ s.pipe.active = true ∧ s.pipe.launched = false ∧ s.lampDark = false ∧
    (after .frameLaunch s).pipe.launched = true ∧ (after .frameLaunch s).fw.requests = [] ∧
    (after .frameLaunch s).out.length = 1 := by decide +kernel
theorem test_line_scan :
    scanning.pipe.nextRow = 0 ∧ 0 < scanning.part.gridH ∧ ({ scanning with pipe := { scanning.pipe with nextRow := 1023 } }).pipe.nextRow <
      scanning.part.gridH ∧ scanning.pourOn = true := by decide +kernel
theorem test_poison_halt :
    let s := { scanning with fuses := { lit.fuses with part := .uh6416 }, pipe := { scanning.pipe with poisonRun := 15, poisoned := true } }
    s.pourOn = true ∧ 16 ≤ s.poisonFrames ∧ s.bit aOf.pipeStat 4 = false ∧ (after .poisonHalt s).bit aOf.pipeStat 4 = true ∧
    s.laneOn 15 = true ∧ (after .poisonHalt s).laneState 15 = lnIdle := by decide +kernel
theorem test_mask_line :
    let p := pourIn .maskClear (hdr 0 0 true 0x00FF0000 0x00010000 []) [] true .armed
    (flying [p]).pourOn = true ∧ p.launch = none ∧ (flying [p]).pour.flight = [p] ∧
    (after .maskLineBoundary (flying [p])).pour.flight = [] ∧
    (flying [{ p with launch := some 4#32 }]).findPour p.key = some { p with launch := some 4#32 } ∧
    (after .maskLineBoundary (flying [{ p with launch := some 4#32 }])).findPour p.key = some { p with launch := some 4#32 } := by
  decide +kernel
theorem test_mask_expiry :
    let m : Mask := { verts := [], depth := 9, soft := 0, ttl := 1, remaining := 0, valid := true, offsetEn := false, ended := true }
    let s := lit.setMask 255 m
    (s.mask 255).valid = true ∧ (s.mask 255).ended = true ∧ m.inForce = false ∧
    ((after (.maskExpiry 255) s).mask 255).valid = false := by decide +kernel
theorem test_tile_row :
    let s := { scanning with pipe := { scanning.pipe with nextRow := 9 } }.cruPut (scanning.part.setBase false)
      (leBytes 0x80000000#32 ++ leBytes 0x00080010#32)
    let l : LateFrame := { tag := s.pipe.tag, power := [], facs := [], rows := [126, 127] }
    let u := { s with temper := { s.temper with late := [l] } }
    let e := { s with temper := { s.temper with late := [{ l with rows := [127] }] } }
    s.temper.late = [] ∧ s.pipe.active = true ∧ s.nextTileRow = some 0 ∧
    0 * 8 + 9 ≤ s.pipe.nextRow ∧ (after (.tileRowUpdate 0 []) s).temper.rowsDone = [0] ∧ u.temper.late = [l] ∧
    ((after (.tileRowUpdate 126 []) u).temper.late.map (·.rows)) = [[127]] ∧ (after (.tileRowUpdate 127 []) e).temper.late = [] := by
  decide +kernel
theorem test_burst :
    let s := put lit [(aOf.pwrState, 4#32), (aOf.tmpStat, 8#32), (aOf.tmpBurst, 2#32)]
    s.alive = true ∧ s.domOn pdPipe = true ∧ s.device = 4 ∧ s.bit aOf.tmpStat 3 = true ∧ s.f aOf.tmpBurst 0 16 ≤ 2 ∧
    (after .burstExhausted s).f aOf.tmpBurst 0 16 = 0 ∧ (after .burstExhausted s).temper.step.isSome = true := by decide +kernel
theorem test_shed_end :
    let s := put { lit with temper := { lit.temper with belowShed := true } } [(aOf.tmpStat, 0x20#32)]
    s.bit aOf.tmpStat 5 = true ∧ s.temper.belowShed = true ∧ (after .shedEnd s).bit aOf.tmpStat 5 = false := by decide +kernel
theorem test_temper_step :
    let o : TemperStep := { shed := false, op := 2, ticket := 0, loaded := false }
    let s := put { lit with temper := { lit.temper with step := some o } } [(aOf.timeFctrl, 1#32)]
    s.temper.step = some o ∧ s.pwr.trans = none ∧ s.pwr.stepTrans = none ∧ s.bit aOf.timeFctrl 0 = true ∧
    (after .temperStep s).temper.step = none ∧ (after .temperStep s).time.pendPeriod = some (s.stepNs o) ∧
    (after .temperStep s).op = min 2 s.op := by decide +kernel

/-! ### The driver link -/

/-- Slice 0 in state `st` on lane 0 in state `ln`, with signal, block lock and its driver's lock. -/
def linked (ln st : Nat) : State :=
  put lit [(aOf.laneStat 0, BitVec.ofNat 32 (ln + 0x38)), (aOf.lnkSlice0 0, 0x80000000#32), (aOf.lnkSlice1 0, 0x00080008#32),
    (aOf.lnkSlice2 0, BitVec.ofNat 32 st)]

/-- A control block as the line carries it after 58 zeros. -/
def wire (d : BitVec 64) : RxBlock := { header := 2#2, payload := scramble 0#58 d }

/-- R126's polynomial, worked out by hand: a one 39 bits before a payload of zeros comes back at bit 0, at bit 19 (58 after it) and
at bit 39 (39 after bit 0), and at bit 58 the two taps cancel; the receiver takes it all back. -/
theorem test_scrambler :
    scramble 0x80000#58 0#64 = 0x8000080001#64 ∧ (scramble 1#58 0#64).getLsbD 0 = true ∧
    descramble 0x123456789#58 (scramble 0x123456789#58 0xFEDCBA9876543210#64) = 0xFEDCBA9876543210#64 := by decide +kernel
theorem test_headers :
    let s := linked lnUp slReady
    let h (k : BitVec 2) : RxBlock := { wire (payCrc [0x99, 9, 0, 0, 3, 0, 0]) with header := k }
    let bad := s.setLane 0 { Lane.reset with hdrs := 0x7FFF#64 }
    let out := (put lit [(aOf.laneStat 0, 0x2B#32), (aOf.lnkSlice0 0, 0x80000000#32)]).setLane 0 { Lane.reset with run := 63 }
    ((s.lane 0).header 1#2).badHeaders < 16 ∧ (after (.ackReceive 0 (h 1#2)) s).f (aOf.laneErr 0) 24 8 = 0 ∧
    ((after (.ackReceive 0 (h 1#2)) s).lane 0).run = 1 ∧ (after (.ackReceive 0 (h 3#2)) s).f (aOf.laneErr 0) 24 8 = 1 ∧
    (after (.ackReceive 0 (h 3#2)) s).bit (aOf.laneStat 0) 4 = true ∧ bad.bit (aOf.laneStat 0) 4 = true ∧
    16 ≤ ((bad.lane 0).header 0#2).badHeaders ∧ (after (.synReceive 0 (h 0#2)) bad).bit (aOf.laneStat 0) 4 = false ∧
    out.laneAlive 0 = true ∧ out.bit (aOf.laneStat 0) 4 = false ∧ out.laneState 0 ≠ lnOff ∧ ((out.lane 0).header 2#2).run = 64 ∧
    (after (.synReceive 0 (h 2#2)) out).bit (aOf.laneStat 0) 4 = true := by decide +kernel
theorem test_ack :
    let b := payCrc [0x99, 9, 0, 0, 3, 0, 0]
    let s := linked lnUp slReady
    s.laneAlive 0 = true ∧ s.laneAlive 63 = true ∧ s.bit (aOf.laneStat 0) 4 = true ∧ s.heard 0 (wire b) = b ∧
    ((s.lane 0).header (wire b).header).badHeaders < 16 ∧ payCrcOk b = true ∧ payByte b 0 = 0x99 ∧
    s.sliceAt 0 = some 0 ∧ ((after (.ackReceive 0 (wire b)) s).slice 0).credit = 9 ∧ payByte b 4 % 2 = 1 ∧
    (after (.ackReceive 0 (wire b)) s).f (aOf.laneErr 0) 0 16 = 1 := by decide +kernel
theorem test_rbd :
    let b := payCrc [0xAA, 0x11, 0, 0xFF, 0x0F, 0, 0]
    let q : RbQuery := { tag := 1, row := 0, expect := [some 0], answered := [], frame := 0#32 }
    let s := (linked lnUp slLit).setSlice 0 { Slice.reset with queries := [q] }
    payCrcOk b = true ∧ payByte b 0 = 0xAA ∧ s.sliceAt 0 = some 0 ∧
    (s.slice 0).queries.find? (fun q => q.tag == payByte b 1 % 16) = some q ∧ 0 < s.rbMisses 0 q b ∧
    (s.slice 0).rbEvent ≠ some s.pipe.tag.number ∧ (after (.rbdReceive 0 (wire b)) s).evSet 640 = true ∧
    (after (.rbdReceive 0 (wire b)) s).f (aOf.laneErr2 0) 0 16 = 1 := by decide +kernel
theorem test_alm_fom_syn :
    let a := payCrc [0xB4, 1, 2, 3, 4, 5, 6]
    let f := payCrc [0xD2, 50, 0, 0x80, 0x0C, 1, 0]
    let y := payCrc [0x2D, 3, 0, 0, 0, 0, 0]
    let s := linked lnTrain slTraining
    payCrcOk a = true ∧ payByte a 0 = 0xB4 ∧ (after (.almReceive 0 (wire a)) s).rd (aOf.laneAlm0 0) = 0x01020403#32 ∧
    payCrcOk f = true ∧ payByte f 0 = 0xD2 ∧ (after (.fomReceive 0 (wire f)) s).f (aOf.laneStat 0) 8 8 = 50 ∧
    payCrcOk y = true ∧ payByte y 0 = 0x2D ∧ s.laneState 0 = lnTrain ∧ ((after (.synReceive 0 (wire y)) s).lane 0).drvDone = true := by
  decide +kernel
/-- A good block of another type is left alone, and one whose CRC-8 fails is discarded. -/
theorem test_block_discarded :
    let b := payCrc [0x99, 9, 0, 0, 3, 0, 0]
    let s := linked lnUp slReady
    returnOk b = true ∧ payByte b 0 ≠ 0x2D ∧ (after (.synReceive 0 (wire b)) s).f (aOf.laneErr 0) 24 8 = 0 ∧ returnOk (b ^^^ 0x100#64) = false ∧
    (after (.ackReceive 0 (wire (b ^^^ 0x100#64))) s).f (aOf.laneErr 0) 24 8 = 1 := by decide +kernel

/-- The identity image of an 8 by 8 driver with 10-bit codes. -/
def identity : List Byte :=
  let w := ([0x4F555643#32, 0x00010100#32, 0x00080008#32, 64#32, 0#32, 0#32, 0#32] : List Word).flatMap leBytes
  w ++ leBytes (crc32c w)

theorem test_cal_chunk :
    let chunk (bs : List Byte) (i : Nat) : BitVec 64 := BitVec.ofNat 64 (0xCC + i * 256 + (imgWord bs i).toNat * 2 ^ 32)
    let bad := identity.set 0 0#8
    let seven (bs : List Byte) := (linked lnUp slIdent).setSlice 0 { Slice.reset with
      chunks := (List.range 7).map (fun i => (i, imgWord bs i)), got := (List.range 7).map (fun i => (i, true)) }
    (linked lnUp slIdent).sliceAt 0 = some 0 ∧ (linked lnUp slIdent).sliceState 0 = slIdent ∧ payByte (chunk identity 7) 0 = 0xCC ∧
    payByte (chunk identity 7) 3 / 64 = 0 ∧ ((after (.calReceive 0 (wire (chunk identity 0))) (linked lnUp slIdent)).slice 0).got = [(0, true)] ∧
    (seven identity).identityOk 0 identity = true ∧ (after (.calReceive 0 (wire (chunk identity 7))) (seven identity)).sliceState 0 = slLoading ∧
    (seven bad).identityOk 0 bad = false ∧ (after (.calReceive 0 (wire (chunk bad 7))) (seven bad)).sliceState 0 = slAbsent := by decide +kernel
theorem test_lane_lock :
    let d := put lit [(aOf.laneStat 63, 1#32)]
    let u := put lit [(aOf.laneStat 63, 0x13#32)]
    d.laneAlive 63 = true ∧ d.laneState 63 ≠ lnOff ∧ (after (.blockLockGain 63) d).bit (aOf.laneStat 63) 4 = true ∧
    d.laneState 63 = lnDetect ∧ (d.lane 63).holdoff = false ∧ (after (.laneSignalDetect 63) d).laneState 63 = lnTrain ∧
    (after (.laneSignalLoss 63) u).bit (aOf.laneStat 63) 4 = false ∧ u.bit (aOf.laneStat 63) 4 = true ∧ u.laneState 63 = lnUp ∧
    u.sliceAt 63 = none ∧ (after (.blockLockLoss 63) u).laneState 63 = lnFailed ∧
    (after (.blockLockLoss 63) (u.setBit (aOf.laneCtrl 63) 3 true)).laneState 63 = lnTest := by decide +kernel
theorem test_lane_training :
    let s := linked lnFailed slTraining
    let tr (p : Nat) (best : Option (Nat × Nat)) := (linked lnTrain slTraining).setLane 0 { Lane.reset with trial := some p, best := best }
    s.laneState 0 = lnFailed ∧ s.bit (aOf.laneStat 0) 3 = true ∧ s.bit (aOf.laneStat 0) 5 = true ∧
    (after (.laneRecover 0) s).laneState 0 = lnTrain ∧ ((tr 6 none).lane 0).trial = some 6 ∧
    ((after (.presetStep 0) (tr 6 none)).lane 0).trial = some 7 ∧ ((tr 7 (some (2, 40))).lane 0).bestAfter 7 = some (2, 40) ∧
    ((after (.presetStep 0) (tr 7 (some (2, 40)))).lane 0).doneSent = true ∧ ((tr 7 none).lane 0).bestAfter 7 = none ∧
    (after (.presetStep 0) (tr 7 none)).laneState 0 = lnDetect ∧ (after (.trainTimeout 0) (tr 0 none)).laneState 0 = lnDetect ∧
    ((after (.detectHoldoffEnd 0) (after (.trainTimeout 0) (tr 0 none))).lane 0).holdoff = false := by decide +kernel
theorem test_lane_windows :
    let s := put (lit.setLane 5 { Lane.reset with winCount := 65535 }) [(aOf.laneEye 5, 0x40000000#32)]
    (s.lane 5).winId = s.winNow 5 ∧ s.f (aOf.laneThr 5) 8 16 ≤ (s.lane 5).winCount ∧ (s.lane 5).winHit = false ∧
    ((after (.errorLimit 5) s).lane 5).winHit = true ∧ s.bit (aOf.laneEye 5) 30 = true ∧
    (after (.eyeScanEnd 5 127 63) s).f (aOf.laneEye 5) 16 7 = 127 := by decide +kernel
theorem test_lane_registers :
    let s := put (linked lnUp slReady) [(aOf.lnkCtrl, 1#32)]
    let o := put lit [(aOf.lnkCtrl, 1#32), (aOf.laneCtrl 0, 4#32)]
    s.canAccess (aOf.laneCtrl 63) = true ∧ (after (.laneEnWrite 0 false) s).laneState 0 = lnOff ∧ s.laneState 63 = lnOff ∧
    (after (.laneEnWrite 63 true) s).laneState 63 = lnDetect ∧ s.laneState 0 = lnUp ∧ (after (.laneTakeWrite 0 true) s).laneState 0 = lnTest ∧
    (after (.laneTakeWrite 0 false) (linked lnTest slReady)).laneState 0 = lnTrain ∧ s.f (aOf.laneCtrl 0) 0 2 ≠ (1#2).toNat ∧
    (after (.laneRateWrite 0 1#2) s).laneState 0 = lnTrain ∧ o.canAccess aOf.lnkCtrl = true ∧ o.laneOn 0 = true ∧
    o.bit (aOf.laneCtrl 0) 2 = true ∧ (after (.linkEnWrite false) s).laneState 0 = lnOff := by decide +kernel
theorem test_link_registers :
    lit.canAccess (aOf.lanePrbs 0) = true ∧ ((after (.errorInject 0 true) lit).lane 0).inject = some true ∧
    lit.canAccess (aOf.laneEye 0) = true ∧ (after (.eyeScan 0) lit).bit (aOf.laneEye 0) 30 = true ∧ lit.canAccess aOf.lnkCal = true ∧
    (after .lnkCalDoneClear (lit.setBit aOf.lnkCal 31 true)).bit aOf.lnkCal 31 = false := by decide +kernel
theorem test_management :
    let s := (linked lnUp slReady).setSlice 0 { Slice.reset with queue := [.cfg 0 10#32] }
    let f := (linked lnUp slReady).setSlice 0 { Slice.reset with queue := [.cfg 0 10#32], sent := 1 }
    (s.slice 0).queue = [.cfg 0 10#32] ∧
    (s.mgmtLanes 0 (.cfg 0 10#32)).head? = some 0 ∧
    ((s.slice 0).sent + 256 - (s.slice 0).credit % 256) % 256 < (s.slice 0).mqd ∧ ((after (.mgmtBlockSend 0) s).slice 0).queue = [] ∧
    (after (.mgmtBlockSend 0) s).out = [.block 0 true (scramble 0#58 (cfgBlock 0 0 10#32))] ∧ (after (.mgmtBlockSend 0) f).out = [] := by decide +kernel
theorem test_cal_load :
    let s := linked lnUp slLoading
    let l (r : Bool) := s.setSlice 0 { Slice.reset with loading := true, retried := r }
    s.sliceState 0 = slLoading ∧ (s.slice 0).loading = false ∧ s.bit aOf.lnkCal 31 = false ∧
    ((after (.calLoadStart 0) s).slice 0).loading = true ∧ ((l false).slice 0).loading = true ∧
    ((after (.calLoadTimeout 0) (l false)).slice 0).retried = true ∧ (after (.calLoadTimeout 0) (l true)).sliceState 0 = slAbsent := by
  decide +kernel
theorem test_readback_timeout :
    let q : RbQuery := { tag := 1, row := 0, expect := [some 0], answered := [], frame := 0#32 }
    let s := (linked lnUp slLit).setSlice 0 { Slice.reset with queries := [q] }
    (s.slice 0).queries = [q] ∧ (after (.readbackTimeout 0) s).f (aOf.laneErr2 0) 24 8 = 1 := by decide +kernel

/-! ### The segment port and gPTP -/

theorem test_segment :
    let s := put lit [(aOf.segCtrl, 1#32), (aOf.segStat, 4#32)]
    let r := put lit [(aOf.segCtrl, 0#32), (aOf.segStat, 5#32)]
    let e := { r with seg := { r.seg with slot := 2 * r.segN } }
    s.segOn = true ∧ s.segRun = false ∧ s.segEn = true ∧ s.vlcdOk = true ∧ s.seg.fstop = false ∧
    (after .segmentFrameStart s).seg.slot = 0 ∧ (after .segmentFrameStart s).seg.restart = false ∧ e.segEn = false ∧ e.segRun = true ∧ 2 * e.segN ≤ e.seg.slot ∧
    (after .segmentFrameStart e).segRun = false ∧ r.seg.slot < 2 * r.segN ∧ r.bit aOf.segCtrl 6 = false ∧ r.testing 8 = false ∧
    (after (.segmentSlot []) r).seg.slot = 1 ∧ (r.setBit aOf.segCtrl 6 true).bit aOf.segCtrl 7 = false ∧
    (after (.segmentSlot []) (r.setBit aOf.segCtrl 6 true)).seg.slot = 1 := by decide +kernel
theorem test_segment_registers :
    let s := put lit [(aOf.segStat, 5#32)]
    lit.canAccess aOf.segCtrl = true ∧ lit.segEn = false ∧ (after .segmentEnable lit).segEn = true ∧
    (after .segmentDisable s).segEn = false ∧ (after .segmentEnable s).seg.restart = true ∧ (after .segmentEnable s).segRun = true ∧ (after (.vsrcWrite 2#2) s).vlcdOk = false ∧ s.segOn = true ∧
    (after .vlcdFault s).segRun = false ∧ lit.vlcdOk = false ∧ (after .vlcdOkSet lit).vlcdOk = true := by decide +kernel

/-- A gPTP message of domain 0. -/
def gptp (originNs : Nat) : GptpMsg :=
  { domain := 0#8, twoStep := true, seqId := 3#16, gm := 9#64, priority := 5#64, originNs := originNs }

/-- The servo follows grandmaster 9 on port 0. -/
def slaved (v : Servo) : State :=
  { lit with fw := { lit.fw with servo := { v with best := some (5#64, 9#64, .p0), port := .p0, gm := 9#64 } } }

theorem test_gptp :
    let v := lit.fw.servo
    let s := slaved { v with syncStamp := some (3#16, 25600), aligned := true }
    let e : TxStamp := { ns := 50#32, frac := 0#8, tag := 0x2003#16 }
    let d := { lit with time := { lit.time with txq0 := [e] } }
    let a := { lit with fw := { lit.fw with servo := { v with pdelay := [(.p0, 3#16, 128000)] } } }
    s.gptpOn .p0 = true ∧ lit.gptpOn .p1 = true ∧ ({ gptp 0 with domain := 1#8 }).domain ≠ 0#8 ∧
    (after (.announce .p0 { gptp 0 with domain := 1#8 }) lit).fw.servo.counted = 1 ∧ (gptp 0).domain = 0#8 ∧ (gptp 0).twoStep = true ∧
    (slaved v).fw.servo.best.isSome = true ∧ (slaved v).fw.servo.port = .p0 ∧ (slaved v).fw.servo.gm = (gptp 0).gm ∧
    ((after (.syncMsg .p0 (gptp 0)) (slaved v)).fw.servo.syncStamp).isSome = true ∧ s.fw.servo.syncStamp = some ((gptp 0).seqId, 25600) ∧
    (after (.followUp .p0 (gptp 600)) s).fw.servo.offset = 600 + s.linkDelay .p0 - (s.fw.servo.baseNs + 100) ∧
    s.fw.servo.aligned = true ∧ (after (.followUp .p0 (gptp 600)) s).time.adjRem = 500 * 2 ^ 48 ∧ lit.fw.servo.best = none ∧
    (after (.announce .p0 (gptp 0)) lit).fw.servo.gm = 9#64 ∧ (lit.txq .p0).length < 16 ∧
    (after (.pdelayReq .p0 (gptp 0)) lit).out.length = 2 ∧
    ((d.fw.servo.stamps.filter (fun e => decide (e.1 = .p0))).map (·.2) ++ d.txq .p0).find? (fun e => e.tag == (2#4 : BitVec 4) ++ ((gptp 0).seqId.setWidth 12 : BitVec 12)) = some e ∧
    (after (.pdelayResp .p0 (gptp 0)) d).fw.servo.pdelay.length = 1 ∧
    a.fw.servo.pdelay.find? (fun d => decide (d.1 = .p0) && d.2.1 == (gptp 0).seqId) = some (.p0, (gptp 0).seqId, 128000) ∧
    (after (.pdelayRespFollowUp .p0 (gptp 100)) a).linkDelay .p0 = 200 ∧ (after (.signaling .p0 (gptp 0)) lit).fw.servo.counted = 1 := by
  decide +kernel
theorem test_gptp_servo :
    let v := lit.fw.servo
    let s := slaved { v with state := 1 }
    let g := { s with fw := { s.fw with items := { s.fw.items with grid := some (0, 16000000) } } }
    s.fw.servo.best.isSome = true ∧ (after .syncReceiptTimeout s).fw.servo.best = none ∧ s.fw.servo.state = 1 ∧
    (after .syncReceiptTimeout s).fw.servo.state = 3 ∧ ¬ ((slaved v).servoState = 2 ∨ (slaved v).fw.servo.state = 1) ∧
    s.fw.servo.aligned = false ∧ s.fw.servo.state ≠ 0 ∧ s.fw.items.grid = none ∧ (after (.gridAlign 70) s).fw.servo.aligned = true ∧
    (after (.gridAlign 70) s).time = s.time ∧ g.fw.items.grid.isSome = true ∧ (after (.gridAlign 70) g).time.running = true := by
  decide +kernel

/-! ### The Crucible and the Tundish -/

theorem test_crucible_window :
    let s := put lit [(aOf.fetCtrl, 1#32)]
    let p := { lit with cru := { lit.cru with poison := [1] } }
    s.alive = true ∧ 1023 < s.part.cruSize ∧ s.domOn pdCru = true ∧ 4 / 8 ∉ s.cru.poison ∧
    (after (.crucibleWindowAccess .cp0 4 (some 0x04030201#32) .clean false) s).cruBytes 4 4 = [1#8, 2#8, 3#8, 4#8] ∧
    (after (.crucibleWindowAccess .cp0 4 none .clean false) s).out = [.data (s.cruWord 4)] ∧ 8 / 8 ∈ p.cru.poison ∧
    (after (.crucibleWindowAccess .cp0 8 none .clean false) p).out = [.busError] ∧
    (after (.crucibleWindowAccess .cp0 16 (some 0#32) .uncorrectable false) s).f aOf.cruUe 0 25 = 16 ∧
    s.part.cruSize ≤ 2 ^ 25 ∧ (after (.crucibleWindowAccess .cp0 (2 ^ 25) none .clean false) s).out = [.busError] ∧
    (s.setF (aOf.pwrVote 5) 24 3 0).domOn pdCru = false := by decide +kernel
theorem test_scrub :
    let s := put lit [(aOf.fetCtrl, 1#32)]
    let f := { lit with cru := { lit.cru with fillRun := some (3, 7, 1), rowRun := some (135, 9, 2) } }
    let g := after (.scrubRead 8 (.corrected 71)) s
    s.scrubs = true ∧ 8 < s.part.cruSize ∧ s.cru.scrubAt ≤ 8 ∧ g.cru.scrubAt = 16 ∧ 8 / 8 ∉ s.cru.poison ∧
    g.cru.corrected = [(1, 71)] ∧ g.scrubs = true ∧ (after (.scrubRead 8 .clean) g).cru.scrubAt = 16 ∧
    (after (.scrubRead 8 .uncorrectable) s).cru.poison = [1] ∧ (after .scrubPassEnd g).cru.scrubAt = 0 ∧
    (after .scrubPassEnd g).f aOf.fetScrub 0 16 = 1 ∧ f.cru.fillRun = some (3, 7, 1) ∧ f.cru.fillQ = [] ∧ f.cru.rowQ = [] ∧
    (after (.columnFillEnd []) f).repair 3 1 = BitVec.ofNat 32 (2 ^ 15 + 7) ∧ f.cru.rowRun = some (135, 9, 2) ∧
    (after (.columnFillEnd []) f).cru.fillRun = none ∧
    (after (.rowCopyEnd []) f).repair 135 2 = BitVec.ofNat 32 (2 ^ 15 + 9) := by decide +kernel
theorem test_retirement :
    let r : Retire := { bank := 127, spare := 128, old := 127, march := false }
    let run (m : Bool) := { lit with cru := { lit.cru with retire := some { r with march := m } } }
    let none_ := put lit ((List.range 9).map (fun i => (aOf.cruPstate i, 0x55555555#32)))
    let q := { lit with cru := { lit.cru with retireQ := [127] } }
    lit.canAccess aOf.fetRet = true ∧ lit.cru.retire = none ∧ lit.cru.retireQ = [] ∧ 127 < lit.part.banks ∧
    none_.spareBank = none ∧ (after (.bankRetire 3 0) q).cru.retireQ = [3, 127] ∧ (after (.bankRetire 127 2) lit).pstate 128 = 3 ∧
    (after (.retirementQueuedStart 0) q).cru.retire = some r ∧
    (after (.bankRetire 127 0) none_).bit aOf.fetRet 28 = true ∧ lit.spareBank = some 128 ∧
    (after (.bankRetire 127 0) lit).cru.retire = some r ∧ q.cru.retireQ = [127] ∧ (run false).cru.retire = some r ∧
    (after (.retirementCopyEnd false []) (run false)).physOf 127 = 128 ∧
    (after (.retirementCopyEnd false []) (run false)).pstate 128 = 1 ∧ (run false).spareBank = some 128 ∧
    (after (.retirementCopyEnd true []) (run false)).pstate 128 = 3 ∧
    ((after (.retirementCopyEnd true []) (run false)).cru.retire.map (·.spare)) = some 129 ∧
    (after (.retirementMarchEnd true) (run true)).pstate 127 = 2 ∧ (after (.retirementMarchEnd false) (run true)).pstate 127 = 3 := by
  decide +kernel
theorem test_tundish :
    let r (op : TunOp) : TunReq := { master := .cp0, word := 131071, op := op, ecc := .clean }
    let d : TunReq := { master := .dma, word := 0, op := .write 1#32, ecc := .clean }
    let w := after (.tundishBatch [r (.write 6#32)]) lit
    lit.tunAllowed Master.cp0.num 131071 true = true ∧ lit.tunAllowed Master.cp0.num 131071 false = true ∧ w.tunWord 131071 = 6#32 ∧
    (after (.tundishBatch [r (.setBits 1#32)]) w).tunWord 131071 = 7#32 ∧
    (after (.tundishBatch [r (.clearBits 2#32)]) w).tunWord 131071 = 4#32 ∧ (after (.tundishBatch [r .read]) w).out = [.data 6#32] ∧
    lit.tunAllowed Master.dma.num 0 true = false ∧ (after (.tundishBatch [d]) lit).out = [.busError] ∧
    (after (.tundishBatch [{ r .read with ecc := .uncorrectable }]) lit).out = [.busError] := by decide +kernel
theorem test_tundish_locks :
    let s := after (.tunLockRead .cp1 63) lit
    lit.canAccess (aOf.tunLock 63) = true ∧ lit.lockOf 63 = 0 ∧ s.lockOf 63 = Master.cp1.num + 1 ∧
    (after (.tunLockWrite .cp0 63 (BitVec.ofNat 32 Master.cp1.num)) s).lockOf 63 = 0 := by decide +kernel
/-- Timing 09-2: in one batch the lower master takes the lock, and the other reads its owner. -/
theorem test_tundish_lock_batch :
    let r (m : Master) (op : TunOp) : TunReq := { master := m, word := 5, op := op, ecc := .clean }
    let b := after (.tundishBatch [r .cp1 .lockRead, r .cp0 .lockRead]) lit
    b.lockOf 5 = Master.cp0.num + 1 ∧ b.out = [.data 0#32, .data (BitVec.ofNat 32 (Master.cp0.num + 1))] ∧
    (after (.tundishBatch [r .cp1 (.lockWrite 0#32)]) b).lockOf 5 = 0 := by decide +kernel
theorem test_march :
    let f := put lit [(aOf.tunFree 0, 0xFFFFFFFF#32), (aOf.tunFree 1, 0xFFFFFFFF#32), (aOf.tunFree 2, 0xFFFFFFFF#32), (aOf.tunFree 3, 0xFFFFFFFF#32)]
    let run (b : Nat) (p : Bool) := { lit with tun := { lit.tun with
      march := some { block := b, last := 127, preserving := p }, borrow := if p then some ⟨b, [], false⟩ else none } }
    lit.canAccess aOf.tunMarch = true ∧ lit.tun.march = none ∧ lit.bit aOf.tunMarch 27 = false ∧
    (after (.marchRun 0 127 true) lit).bit aOf.tunMarch 29 = true ∧ (after (.marchRun 0 127 true) lit).tun.borrow = some ⟨0, [], false⟩ ∧ f.blockBit (aOf.tunFree 0) 127 = true ∧
    (after (.marchRun 0 127 false) f).tun.march.isSome = true ∧
    lit.blockBit (aOf.tunFree 0) 127 = false ∧ (after (.marchRun 127 127 false) lit).bit aOf.tunMarch 26 = true ∧
    (after (.marchBlockDone true) (run 127 true)).blockBit (aOf.tunBad 0) 127 = false ∧
    ((after (.marchBlockDone false) (run 127 true)).tun.borrow.map (fun b => (b.block, b.kept))) = some (127, true) ∧
    ((run 128 true).tun.march.map (fun k => decide (k.last < k.block))) = some true ∧ (after .marchEnd (run 128 true)).tun.march = none := by
  decide +kernel

/-! ### Processors and mailboxes -/

/-- An image signed by a key made for this test (private key 0x1234567), worked out from Table 10-1 and FIPS 186-4 outside
the model: its header in 32-byte rows, most significant byte first. -/
def headerRows : List Nat :=
  [0x3436485501000000040000000000000000000000010000030300000000000000,
   0x07000000000000000000000000000000df3f619804a92fdb4057192dc43dd748,
   0xea778adc52bc498ce80524c014b81119088bb9ff22ab291a74c86fc677ba897b,
   0xaadee370cc6129b82d170ba3fc26415c442da9a716067956d91eaa02b93ad409,
   0x490e87cd5e758ea6a331a1deb75ba846b4435f4f2becfa7f2e4595462f87e35e,
   0x3017689ef037c741c6b371538934d987c034d30df7e7db05b18687b5517ef52a,
   0xe83797407c63c466656565b491090f0500000000000000000000000000000000,
   0x0000000000000000000000000000000000000000000000000000000042d56326]

/-- The factory record that holds the hash of its key: header and the first 64 bytes of the body, in 32-byte rows. -/
def recordRows : List Nat :=
  [0x0000c3a501000000400000005d9e0d6d0000000000000000000000000a86761d,
   0x0000000000000000000000000000000000000000000000000000000000000000,
   0x0f8a212d4f085087c3547aae01e8f656e297a664b1373995bd4e554efb036244]

/-- The bytes of 32-byte rows. -/
def rowBytes (rows : List Nat) : List Byte :=
  rows.flatMap (fun n => (List.range 32).map (fun i => BitVec.ofNat 8 (n / 256 ^ (31 - i))))


/-- The header. -/
def header : List Byte := rowBytes headerRows

/-- The device in the Boot ROM with that image in slot A and that factory record. -/
def flashed : State :=
  { lit with
    cpu := { lit.cpu with flash := (List.range 260).zip (header ++ [0#8, 0#8, 0#8, 0#8]) }
    nv := { lit.nv with cells := (List.range 96).zip (rowBytes recordRows) } }

/-- FIPS 180-4's example digest of "abc". -/
theorem test_sha256 : sha256 [0x61#8, 0x62#8, 0x63#8] =
    0xba7816bf8f01cfea414140de5dae2223b00361a396177a9cb410ff61f20015ad := by decide +kernel
theorem test_header_crc : crc32c (header.take 252) = 0x2663d542#32 := by
  have e : header.take 252 = ((rowBytes (headerRows.take 2) ++ rowBytes ((headerRows.drop 2).take 2)) ++
      rowBytes ((headerRows.drop 4).take 2)) ++ (rowBytes (headerRows.drop 6)).take 60 := by decide +kernel
  have h1 : (rowBytes (headerRows.take 2)).foldl crc32cByte 0xFFFFFFFF#32 = 0xefa391ba#32 := by decide +kernel
  have h2 : (rowBytes ((headerRows.drop 2).take 2)).foldl crc32cByte 0xefa391ba#32 = 0x9aadfe58#32 := by decide +kernel
  have h3 : (rowBytes ((headerRows.drop 4).take 2)).foldl crc32cByte 0x9aadfe58#32 = 0x8dc29a26#32 := by decide +kernel
  have h4 : ((rowBytes (headerRows.drop 6)).take 60).foldl crc32cByte 0x8dc29a26#32 = 0xd99c2abd#32 := by decide +kernel
  rw [crc32c, e, List.foldl_append, List.foldl_append, List.foldl_append, h1, h2, h3, h4]
  rfl
theorem test_header : flashed.slotHdr 0 = header := by decide +kernel
theorem test_header_ok : hdrOk header = true := by
  unfold hdrOk
  rw [test_header_crc]
  decide +kernel
theorem test_key_hash : flashed.keyHash (hdrOem header) = some (sha256 ((header.drop 0x50).take 64)) := by decide +kernel
theorem test_signature : ecdsaOk (beNat (((header.drop 0x50).take 64).take 32)) (beNat (((header.drop 0x50).take 64).drop 32))
    (sha256 (header.take 0x90)) (beNat ((header.drop 0x90).take 32)) (beNat ((header.drop 0xB0).take 32)) = true := by decide +kernel
theorem test_image : flashed.slotCode 0 false = 0 := by
  unfold State.slotCode State.imageCode
  rw [test_header]
  simp only [test_header_ok, test_key_hash, test_signature]
  decide +kernel
theorem test_image_refused : flashed.slotCode 1 false = 1 := by decide +kernel
theorem test_image_xspi : flashed.slotCode 0 true = 2 := by
  unfold State.slotCode State.imageCode
  rw [test_header]
  simp only [test_header_ok]
  rfl
theorem test_boot_rom : flashed.inRom .cp0 = true ∧ Core.cp0 = flashed.active ∧ lit.inRom .cp1 = true ∧ Core.cp1 ≠ lit.active := by
  decide +kernel
theorem test_boot_standby : flashed.inRom .cp1 = true ∧ Core.cp1 ≠ flashed.active ∧ flashed.fw.started = true ∧
    flashed.slotCode flashed.cpu.bootSlot (([] : List Nat).contains flashed.cpu.bootSlot) = 0 := by
  refine ⟨by decide +kernel, by decide +kernel, by decide +kernel, ?_⟩
  have h : flashed.cpu.bootSlot = 0 := by decide +kernel
  rw [h]
  exact test_image
theorem test_firmware_start :
    let s := { lit with fw := Firmware.reset }
    s.canEnter .cp0 = true ∧ Core.cp0 = s.active ∧ (after (.firmwareStart .cp0) s).fw.started = true ∧
    lit.canEnter .cp1 = true ∧ (after (.firmwareStart .cp1) lit).bit aOf.sysRole 4 = true := by decide +kernel
theorem test_roles :
    let s := lit.setBit aOf.sysRole 4 true
    let p := s.setBit aOf.sysRole 9 true
    let h := { lit with cpu := { lit.cpu with handover := some 1 } }
    let k := { s with cpu := { s.cpu with takeover := true } }
    let n := { lit with cpu := { lit.cpu with takeover := true } }
    s.canAccess aOf.sysRole = true ∧ s.bit aOf.sysRole 4 = true ∧ (after (.roleSwap s.active.master) s).bit aOf.sysRole 9 = true ∧
    p.bit aOf.sysRole 9 = true ∧ p.cpu.takeover = false ∧ (after .swapApply p).active = .cp1 ∧ h.cpu.handover.isSome = true ∧
    h.bit aOf.sysRole 4 = false ∧ (after .handoverTimeout h).cpu.handover = none ∧ k.cpu.takeover = true ∧
    k.bit aOf.sysRole 4 = true ∧ (after .takeover k).active = .cp1 ∧ (after .takeover k).cpu.takeover = false ∧
    n.bit aOf.sysRole 4 = false ∧ (after .takeover n).active = .cp0 ∧ (after .takeover n).core .cp0 = .rom := by decide +kernel
theorem test_watchdog :
    let s := put lit [(aOf.sysWdt 0, 0x00800000#32), (aOf.sysWdt 1, 0x00800000#32)]
    s.bit (aOf.sysWdt 0) 23 = true ∧ (after (.watchdogExpire .cp0) s).fw.started = false ∧
    (after (.watchdogExpire .cp0) (s.setBit aOf.sysRole 4 true)).cpu.takeover = true ∧ (after (.watchdogExpire .cp1) s).core .cp1 = .rom ∧
    s.canAccess (aOf.sysWdt 1) = true ∧ (after (.watchdogKick .cp1 0x5A#8) s).cpu.kick1 = s.extNs ∧
    (after (.watchdogKick .cp1 0x5B#8) s) = s.begin := by decide +kernel
theorem test_fuses :
    let s := { lit with cpu := { lit.cpu with core0 := .running { slot := 0, loose := false, arbver := 32, release := 0#32, level := 3#32 } } }
    s.canAccess aOf.secArb = true ∧ coreOfMaster .cp0 = some .cp0 ∧ s.fuses.arb < 32 ∧ 32 ≤ (s.imageOn .cp0).arbver ∧
    coreOfMaster .dma = none ∧ (after (.arbTargetWrite .dma 32) s).fuses = s.fuses ∧ (after (.arbTargetWrite .cp0 33) s).fuses = s.fuses := by
  decide +kernel
theorem test_mailboxes :
    let full := { lit with mbx := [(1, ⟨List.replicate 16 0#32, [], 0⟩)] }
    let one := { lit with mbx := [(0, ⟨[7#32], [], 1⟩), (1, ⟨[8#32], [], 1⟩)] }
    let cold := { one with fw := { one.fw with started := false } }
    let get := { lit with mbx := [(0, ⟨[0x02110000#32], [3#32], 1⟩)] }
    let part := { lit with mbx := [(0, ⟨[0x11110001#32], [3#32], 1⟩)] }
    lit.mbxWriter 0 ≠ some .cp0 ∧ (after (.mailboxPost (.core .cp0) 0 1#32) lit).out = [.busError] ∧ lit.mbxReader 1 ≠ some .cp0 ∧
    lit.mbxWriter 1 = some .cp0 ∧ (lit.fifo 1).free ≠ 0 ∧ ((after (.mailboxPost (.core .cp0) 1 1#32) lit).fifo 1).words = [1#32] ∧
    (full.fifo 1).free = 0 ∧ (after (.mailboxPost (.core .cp0) 1 1#32) full).out = [.busError] ∧ lit.mbxReader 0 = some .cp0 ∧
    (lit.fifo 0).visible = 0 ∧ (after (.mailboxPop (.core .cp0) 0) lit).out = [.data 0#32, .busError] ∧ (one.fifo 0).visible ≠ 0 ∧
    (after (.mailboxPop (.core .cp0) 0) cold).out = [.data 7#32] ∧ cold.fw.started = false ∧ cold.inRecovery = false ∧
    get.fw.started = true ∧ get.fw.hmbIn ++ [0x02110000#32] = [0x02110000#32] ∧ msgLen 0x02110000#32 = 1 ∧
    ((after (.mailboxPop (.core .cp0) 0) get).fifo 1).visible ≠ 0 ∧ msgLen 0x11110001#32 = 2 ∧
    (after (.mailboxPop (.core .cp0) 0) part).fw.hmbIn = [0x11110001#32] ∧ one.fw.outbox = [] ∧ one.fw.hibernate = false ∧
    ((after (.mailboxPop .host 1) one).fifo 1).words = [] ∧ ((after (.mailboxPost .host 0 5#32) lit).fifo 0).words.length = 1 ∧
    (after (.hostGenerationWrite 0x1F#32) lit).gen 0 = 15 := by decide +kernel
theorem test_doorbells :
    lit.alive = true ∧ (after (.doorbellSet .internal 3 5#32) lit).dbBits 3 = 4#32 ∧
    (after (.doorbellClear .host 0 6#32) (put lit [(aOf.mbxDbstat 0, 7#32)])).dbBits 0 = 1#32 ∧ lit.fwRuns = true ∧
    (after .heartbeat lit).dbBits 0 = 0x80000000#32 ∧ (after (.spiStatus .status) lit).out.length = 1 ∧
    (after (.spiStatus .cut) lit).out = [] ∧ (after (.spiStatus (.unknown 0x9F#8)) lit).out.length = 1 ∧
    (after (.spiStatus (.unknown 0x9F#8)) lit).evSet 906 = true := by decide +kernel
theorem test_event_registers :
    let s := lit.setF (aOf.evtRoute 0) 0 8 64
    lit.canAccess aOf.evtSwset = true ∧ 960 / 64 = 15 ∧ 1023 / 64 = 15 ∧ 959 / 64 ≠ 15 ∧
    (after (.eventSoftwareSet 959) lit) = lit.begin ∧ s.canAccess (aOf.evtEn 31) = true ∧ s.evEn 0 = false ∧ s.evSet 0 = true ∧
    (after (.eventEnableWrite 0 1#32) s).dbBits 1 = 2#32 := by decide +kernel
theorem test_debug_window :
    let p := { lit with fuses := { lit.fuses with lifecycle := .production } }
    let x := lit.dbgAddr 0x100000
    let rd (r : Option (Option Word)) := { lit with cpu := { lit.cpu with dbgRead := [⟨x, 0, r⟩] } }
    let wr := { lit with cpu := { lit.cpu with dbgWrite := some (0x20000000, 9#32) } }
    p.fuses.lifecycle = .production ∧ inDebug 0x100000 = true ∧ inDebug 0x1FFFFC = true ∧ inDebug 0x200000 = false ∧
    (after (.debugWindowRead 0x100000 false) p).cpu = p.cpu ∧ lit.fuses.lifecycle ≠ .production ∧ lit.dbgFound x = none ∧
    (after (.debugWindowRead 0x100000 false) lit).cpu.dbgRead = [⟨x, 0, none⟩] ∧
    (after (.debugWindowRead 0x100000 true) lit).cpu.dbgRead = [] ∧
    (after (.debugWindowRead 0x100004 false) (rd none)).cpu.dbgRead = [⟨x, 0, none⟩, ⟨x + 4, 0, none⟩] ∧
    (rd (some (some 5#32))).dbgFound x = some ⟨x, 0, some (some 5#32)⟩ ∧
    (after (.debugWindowRead 0x100000 false) (rd (some (some 5#32)))).cpu.dbgRead = [] ∧
    (rd (some none)).dbgFound x = some ⟨x, 0, some none⟩ ∧ (rd none).dbgFound x = some ⟨x, 0, none⟩ ∧
    (after (.debugWindowRead 0x100000 false) (rd none)).cpu = (rd none).cpu ∧
    lit.cpu.dbgWrite = none ∧ (after (.debugWindowWrite 0x1FFFFC 3#32) lit).cpu.dbgWrite = some (lit.dbgAddr 0x1FFFFC, 3#32) ∧
    wr.cpu.dbgWrite.isSome = true ∧ (after (.debugWindowWrite 0x100000 3#32) wr).cpu = wr.cpu ∧
    (after (.dbgBaseWrite 0xFFFFFFFF#32) lit).cpu.dbgBase = 0xFFF00000#32 ∧
    (after .debugAccessComplete wr).cpu.dbgWrite = none ∧ (after .debugAccessComplete wr).cruByte 0 = 9#8 ∧
    (rd none).cpu.dbgWrite = none ∧ (rd none).cpu.dbgRead = [] ++ ⟨x, 0, none⟩ :: [] ∧
    ((after .debugAccessComplete (rd none)).cpu.dbgRead.map (·.result.isSome)) = [true] := by decide +kernel

/-! ### Messages -/

theorem test_reading_messages :
    let q (w : Nat) := ask [BitVec.ofNat 32 w]
    lit.admits 0x01#8 (ask []) = true ∧ lit.answersNow (ask []) 10 = true ∧ (after (.identify (ask [])) lit).out.length = 1 ∧
    lit.admits 0x02#8 (ask []) = true ∧ lit.admits 0x11#8 (q 3) = true ∧ 2 ≤ (q 3).len ∧ onlyBits ((q 3).w 1) 0xFFFF = true ∧
    lit.fw.items.words 3 = some [10#32] ∧ (after (.configGet (q 3)) lit).out = [lit.replyTo 0x11#8 (q 3) 0 0 [10#32]] ∧
    lit.admits 0x40#8 (q 0x3F1F) = true ∧ onlyBits ((q 0x3F1F).w 1) 0x3F1F = true ∧ fld ((q 0x3F1F).w 1) 0 4 ≠ 12 ∧
    (after (.eventRead (q 0x3F1F)) lit).rd (aOf.evtStat 31) = 0#32 ∧ (after (.eventRead (q 0x3F0F)) lit).rd (aOf.evtStat 31) = 0xFFFFFFFF#32 ∧
    lit.admits 0x50#8 (ask []) = true := by decide +kernel
/-- A record of 12 calibration entries, valid as record 7. -/
def userCal : State :=
  let body : List Byte := List.replicate 12 1#8
  let h : List Byte := ([0xA5C30007#32, 1#32, 12#32, crc32c body, 0#32, 0#32, 0#32] : List Word).flatMap leBytes
  { lit with nv := { lit.nv with cells := (List.range' 0x8000 44).zip (h ++ leBytes (crc32c h) ++ body) } }
theorem test_cal_read :
    userCal.admits 0x61#8 (ask [0#32]) = true ∧ onlyBits ((ask [0#32]).w 1) 0x1FF = true ∧
    userCal.calEntryOf (bitOf ((ask [0#32]).w 1) 8) (if fld ((ask [0#32]).w 1) 0 8 = 16 then 16 + userCal.f aOf.calCtrl 0 1 else fld ((ask [0#32]).w 1) 0 8)
      = some [0x01010101#32, 0x01010101#32, 0x01010101#32] := by decide +kernel
theorem test_nv_read :
    let q := ask [0x40#32, 2#32]
    let b := { lit with nv := { lit.nv with bad := [8] } }
    let w := { lit with nv := { lit.nv with queue := [(0x40, [1#8, 2#8, 3#8, 4#8])] } }
    lit.admits 0x70#8 q = true ∧ 3 ≤ q.len ∧ (q.w 1).toNat % 4 = 0 ∧ onlyBits (q.w 2) 0xF = true ∧ 0 < fld (q.w 2) 0 4 ∧
    fld (q.w 2) 0 4 ≤ 12 ∧ (q.w 1).toNat + 4 * fld (q.w 2) 0 4 ≤ 0x100000 ∧ (List.range 2).all (fun i => !(lit.nvMet q []).nvBad ((q.w 1).toNat + 4 * i) 4) = true ∧
    (after (.nvRead q []) lit).out = [lit.replyTo 0x70#8 q 0 0 [0x40#32, 0#32, 0#32]] ∧
    (b.nvMet q []).nvBad ((q.w 1).toNat + 4 * 1) 4 = true ∧
    (after (.nvRead q []) b).out = [b.replyTo 0x70#8 q 10 0 []] ∧
    (lit.nvMet q [(0x44, .uncorrectable)]).nvBad ((q.w 1).toNat + 4 * 1) 4 = true ∧
    (lit.nvMet q [(0x44, .corrected)]).nv.weak = [8] ∧ (after (.nvRead q [(0x44, .corrected)]) lit).f aOf.nvcEcc 24 8 = 1 ∧
    (w.nvMet q []).nvWord 0x40 = 0x04030201#32 := by decide +kernel
theorem test_lane_report :
    let q := (ask [0#32, 0#32]).sel 8 4 6
    lit.admits 0xA0#8 q = true ∧ 3 ≤ q.len ∧ onlyBits (q.w 1) 0xF3F = true ∧ fld (q.w 1) 0 6 < lit.part.lanes ∧
    (after (.laneCtrlReport (ask [0#32, 0#32])) lit).out.length = 1 := by decide +kernel
/-- One record in the log ring's first slot. -/
def logged : State :=
  let r : List Byte := List.replicate 28 1#8
  { lit with nv := { lit.nv with cells := (List.range' 0x40000 32).zip (r ++ leBytes (crc32c r)) } }
theorem test_log_read :
    logged.admits 0xC0#8 (ask [0#32]) = true ∧ 0 < logged.logNewest.length ∧ onlyBits ((ask [0#32]).w 1) 0xFFFF = true ∧
    logged.logNewest.length ≤ fld ((ask [1#32]).w 1) 0 16 ∧ (after (.logRead (ask [0#32])) logged).out.length = 1 ∧
    (after (.logRead (ask [1#32])) logged).out = [logged.replyTo 0xC0#8 (ask [1#32]) 2 0 []] := by decide +kernel
theorem test_config_set :
    let q := ask [6#32, 1#32]
    lit.admits 0x10#8 q = true ∧ lit.itemAbsent 6 q = false ∧ itemLen 6 ≤ q.len ∧ onlyBits (q.w 1) 0xFFFF = true ∧
    lit.itemValid 6 q = true ∧ lit.itemStarves 6 q = false ∧ (after (.configSet q) lit).fw.items.litOp = 1 ∧
    (after (.configSet q) lit).f aOf.pwrCtrl 2 2 = 1 := by decide +kernel
/-- A period that finds a Temper step's waiting gives way (R182). -/
theorem test_config_period_given_up :
    let q := ask [4#32, 16000000#32]
    let s := { shining with fuses := { lit.fuses with part := .uh6416 }, time := { lit.time with pendTemper := true } }.setBit aOf.timeFctrl 0 true
    s.admits 0x10#8 q = true ∧ s.itemAbsent 4 q = false ∧ itemLen 4 ≤ q.len ∧ s.itemValid 4 q = true ∧ s.itemStarves 4 q = false ∧
    s.device ≠ 4 ∧ (s.bit aOf.timeFctrl 0 && s.time.pendTemper) = true ∧
    (after (.configSet q) s).f aOf.timePeriod 0 25 = s.f aOf.timePeriod 0 25 := by decide +kernel
theorem test_config_period :
    let q := ask [4#32, 16000000#32]
    let s := { shining with fuses := { lit.fuses with part := .uh6416 } }
    s.admits 0x10#8 q = true ∧ s.itemAbsent 4 q = false ∧ itemLen 4 ≤ q.len ∧ s.itemValid 4 q = true ∧ s.itemStarves 4 q = false ∧
    s.device ≠ 4 ∧ s.fw.lamp ≠ .off := by decide +kernel
theorem test_event_config :
    let q := ask [0x020103FE#32, 1#32]
    lit.admits 0x41#8 q = true ∧ 3 ≤ q.len ∧ onlyBits (q.w 1) 0xDF0103FF = true ∧ onlyBits (q.w 2) 0x3F = true ∧
    fld (q.w 1) 0 10 % 64 + fld (q.w 2) 0 6 < 64 ∧ lit.absentSource 1022 = false ∧ lit.absentSource 1023 = false ∧
    (after (.eventConfig q) lit).evEn 1023 = true ∧ (after (.eventConfig q) lit).evEn 1021 = false := by decide +kernel
/-- Every item of TIME_CONFIG has a request that is taken. -/
theorem test_time_config :
    (([(0, [0#32, 5#32]), (1, [0#32, 5#32]), (2, [0#32, 1#32, 2#32]), (3, [0#32, 1#32, 7#32]), (4, [0#32, 1#32, 7#32]),
      (5, [0#32, 0#32, 1#32, 0#32, 16000000#32]), (6, [0#32, 7#32, 1#32, 2#32, 3#32])] : List (Nat × List Word)).all (fun x =>
        let q := ask x.2
        let s := { lit with fuses := { lit.fuses with part := if x.1 = 5 then .uh6416 else .uh6440 } }
        let s := s.setF (aOf.pwrVote 4) 24 3 (if x.1 = 5 then 0 else 2)
        s.admits 0x51#8 (q.sel 0 8 x.1) && onlyBits ((q.sel 0 8 x.1).w 1) 0xFF && decide (timeItemLen x.1 ≤ q.len) &&
        s.timeItemValid x.1 q && (s.part.hasPort1 || x.1 == 5))) = true := by decide +kernel
theorem test_time_items :
    (after (.timeConfigThr (ask [0#32, 5#32])) lit).f aOf.timeStepthr 0 24 = 5 ∧
    (after (.timeConfigHoldover (ask [2#32, 1#32, 2#32])) lit).fw.servo.hage = 2 ∧
    (after (.timeConfigLat (ask [4#32, 1#32, 7#32])) lit).rd (aOf.timeLat 1) = 7#32 ∧
    (after (.timeConfigWindow (ask [6#32, 7#32, 1#32, 2#32, 3#32])) lit).rd (aOf.timeEw2 7) = 3#32 := by decide +kernel
theorem test_nv_write :
    let q := ask [0xFFFC#32, 0x01020304#32]
    lit.admits 0x71#8 q = true ∧ 3 ≤ q.len ∧ (q.w 1).toNat % 4 = 0 ∧ lit.nvRefuses = false ∧ lit.nvWritable 0xFFFC 4 = true ∧
    (after (.nvWrite q) lit).nvBytes 0xFFFC 4 = [4#8, 3#8, 2#8, 1#8] := by decide +kernel
theorem test_nv_save :
    let h := ask [2#32]
    let w := ask [1#32]
    lit.admits 0x72#8 h = true ∧ 2 ≤ h.len ∧ onlyBits (h.w 1) 0xF = true ∧ lit.saveBarred (h.w 1) = false ∧ bitOf (h.w 1) 0 = false ∧
    (after (.nvSaveNow h) lit).rd aOf.nvcHseq = 1#32 ∧ lit.admits 0x72#8 w = true ∧ lit.saveBarred (w.w 1) = false ∧
    bitOf (w.w 1) 0 = true ∧ lit.domOn pdCru = true ∧ (after (.nvSaveNow w) lit).nv.wear = true := by decide +kernel
theorem test_cal_run :
    lit.admits 0x60#8 (ask [0x20#32]) = true ∧ onlyBits ((ask [0x20#32]).w 1) 0x1FF = true ∧ lit.cal.calRun = none ∧
    calObjects 0x20 ≠ [] ∧ (after (.calRun (ask [0x20#32])) lit).cal.calRun = some (List.range 16) := by decide +kernel
theorem test_ingot_store :
    let b := ask [0#32, 32#32, 0#32]
    let d := ask [1#32, 0#32, 0x01020304#32]
    let x : Xfer := { route := .port .p0, len := 32, crc := 0#32, bytes := [], erasing := false }
    let o := { lit with fw := { lit.fw with ingotXfer := some x } }
    lit.admits 0x23#8 (b.sel 0 4 0) = true ∧ onlyBits ((b.sel 0 4 0).w 1) 0xF = true ∧ 4 ≤ b.len ∧ 32 ≤ (b.w 2).toNat ∧
    lit.otherRoute .ingot b = false ∧ (after (.ingotStoreBegin b) lit).fw.ingotXfer = some x ∧ o.admits 0x23#8 (d.sel 0 4 1) = true ∧
    4 ≤ d.len ∧ o.fw.ingotXfer = some x ∧ x.route = d.route ∧ (d.w 2).toNat = x.bytes.length ∧
    ((after (.ingotStoreData d) o).fw.ingotXfer.map (·.bytes)) = some [1#8, 2#8, 3#8, 4#8] := by decide +kernel
/-- An Ingot of one black texel. -/
def ingotOne : List Byte :=
  ([0x00000001#32, 34#32, 0x00010001#32, 0#32, 0x04000000#32, 0#32, 0x100F0000#32, 0#32] : List Word).flatMap beBytes ++ [0#8, 0#8]
theorem test_ingot_end :
    let q := ask [2#32]
    let x : Xfer := { route := .port .p0, len := ingotOne.length, crc := crc32c ingotOne, bytes := ingotOne, erasing := false }
    let o (c : Word) := { lit with fw := { lit.fw with ingotXfer := some { x with crc := c } } }
    (o x.crc).admits 0x23#8 (q.sel 0 4 2) = true ∧ onlyBits ((q.sel 0 4 2).w 1) 0xF = true ∧ 2 ≤ q.len ∧ x.route = q.route ∧
    ingotOk ingotOne = true ∧ lit.noPourWaits = true ∧ lit.bpCovers (recHdr 6 (lit.recNext 6).1) = false ∧ lit.nvRefuses = false ∧
    (after (.ingotStoreEnd q) (o x.crc)).fw.ingotXfer = none ∧ crc32c ingotOne ≠ crc32c ingotOne + 1#32 ∧
    (after (.ingotStoreEnd q) (o (x.crc + 1#32))).nv = lit.nv := by decide +kernel
theorem test_stage_begin :
    let b := ask [0#32, 260#32]
    lit.admits 0x80#8 (b.sel 0 4 0) = true ∧ onlyBits ((b.sel 0 4 0).w 1) 0xF = true ∧ 3 ≤ b.len ∧ 260 ≤ (b.w 2).toNat ∧
    (b.w 2).toNat ≤ 131328 ∧ (b.w 2).toNat % 4 = 0 ∧ lit.otherRoute .firmware b = false ∧ lit.cpu.handover = none ∧
    (after (.fwStageBegin b) lit).fw.fwXfer = some { route := .port .p0, len := 260, crc := 0#32, bytes := [], erasing := true } := by
  decide +kernel
theorem test_stage_data :
    let d := ask [1#32, 0#32, 0x01020304#32]
    let x (e : Bool) : Xfer := { route := .port .p0, len := 260, crc := 0#32, bytes := [], erasing := e }
    let o (e : Bool) := { lit with fw := { lit.fw with fwXfer := some (x e) } }
    (o true).fw.fwXfer = some (x true) ∧ (o true).fwRuns = true ∧ (after .slotEraseEnd (o true)).fw.fwXfer = some (x false) ∧
    (o false).admits 0x80#8 (d.sel 0 4 1) = true ∧ 4 ≤ d.len ∧ (d.w 2).toNat = (x false).bytes.length ∧
    ((after (.fwStageData d) (o false)).fw.fwXfer.map (·.bytes.length)) = some 4 ∧ (o false).xfer .firmware = some (x false) ∧
    (after (.transferTimeout .firmware) (o false)).fw.xferClosed = [(.firmware, .port .p0)] := by decide +kernel
/-- A device whose firmware runs in slot B has the image of test_image in its idle slot. -/
def staging : State :=
  let x : Xfer := { route := .port .p0, len := 260, crc := 0#32, bytes := List.replicate 260 0#8, erasing := false }
  { flashed with cpu := { flashed.cpu with core0 := .running { slot := 1, loose := false, arbver := 0, release := 0#32, level := 3#32 } }
                 fw := { flashed.fw with fwXfer := some x } }
theorem test_stage_end :
    let q := ask [2#32]
    staging.admits 0x80#8 (q.sel 0 4 2) = true ∧ onlyBits ((q.sel 0 4 2).w 1) 0xF = true ∧ 2 ≤ q.len ∧ staging.idleSlot = 0 ∧
    (staging.fw.fwXfer.map (fun x => (decide (x.route = q.route), x.erasing, x.bytes.length == x.len))) = some (true, false, true) := by
  decide +kernel
theorem test_stage_end_code : staging.slotCode 0 false = 0 := by
  unfold State.slotCode State.imageCode
  have e : staging.slotHdr 0 = header := by decide +kernel
  have k : staging.keyHash (hdrOem header) = some (sha256 ((header.drop 0x50).take 64)) := by decide +kernel
  rw [e]
  simp only [test_header_ok, k, test_signature]
  decide +kernel
theorem test_stage_end_refused :
    let s := { staging with cpu := { staging.cpu with flash := [] } }
    s.slotCode 0 false = 1 ∧ s.idleSlot = 0 ∧ (after (.fwStageEnd (ask [2#32])) s).fw.fwXfer = none := by decide +kernel
theorem test_commit_handover :
    let i (n : Nat) : CoreState := .running { slot := 0, loose := false, arbver := n, release := 0#32, level := 3#32 }
    let s (n : Nat) := { lit with cpu := { lit.cpu with core0 := i n, stagedOk := [1] } }
    let q := ask [0#32]
    let h := ask [1#32]
    (s 0).nvRefuses = false ∧ (s 0).admits 0x81#8 q = true ∧ onlyBits (q.w 1) 1 = true ∧ fld (q.w 1) 0 1 = ((s 0).imageOn (s 0).active).slot ∧
    ((s 0).imageOn (s 0).active).arbver ≤ (s 0).fuses.arb ∧ (after (.fwCommit q) (s 0)).fuses = (s 0).fuses ∧
    (s 32).fuses.arb < ((s 32).imageOn (s 32).active).arbver ∧ (s 0).admits 0x82#8 h = true ∧ fld (h.w 1) 0 1 ∈ (s 0).cpu.stagedOk ∧
    (s 0).cpu.handover = none ∧ (after (.fwHandover h) (s 0)).cpu.handover = some 1 := by decide +kernel
theorem test_lamp_state :
    let q (w : Nat) := ask [BitVec.ofNat 32 w]
    let off := put lit [(aOf.pwrVote 4, 0#32)]
    lit.admits 0x20#8 (q 0) = true ∧ 2 ≤ (q 0).len ∧ onlyBits ((q 0x30F).w 1) 0x30F = true ∧ lampOf 3 = some .ingot ∧
    lit.fw.entering = 0 ∧ lit.fw.leaving = none ∧ lit.fuses.lifecycle ≠ .returned ∧ lit.offHeld = false ∧ lit.fw.lamp = .off ∧
    lit.fw.fade = none ∧ lit.fw.cuts = [] ∧ (after (.lampState (q 0)) lit).out = [lit.replyTo 0x20#8 (q 0) 0 0 [0#32, 0#32]] ∧
    (after (.lampState (q 3)) off).fw.leaving = some .ingot ∧ shining.fw.lamp = .lit ∧ bitOf ((q 0x103).w 1) 8 = true ∧
    ((after (.lampState (q 0x103)) shining).fw.fade.map (·.target)) = some .ingot ∧ shining.ingotTargets .dark = none ∧
    shining.injects .layerSet 0 (BitVec.ofNat 32 (15 * 65536)) (BitVec.ofNat 32 65536) true
      (beBytes (shining.layer15 .dark 255).1 ++ beBytes (shining.layer15 .dark 255).2) = true ∧
    (after (.lampState (q 1)) shining).fw.cuts = [(.dark, 0#16)] ∧ (after (.lampState (q 0)) shining).fw.entering = 1 ∧
    bitOf ((q 0x204).w 1) 9 = true ∧ bitOf ((q 0x204).w 1) 8 = false ∧
    ((after (.lampState (q 0x204)) shining).fw.cuts.map (·.1)) = [.service] := by decide +kernel
theorem test_pattern_select :
    let bs := ([0x00010001#32, 0#32, 0x04000000#32] : List Word).flatMap leBytes
    let s := { shining with cru := { shining.cru with cells := (List.range' (shining.part.setBase false + 0x20) 12).zip bs } }
    let q := ask [0x00F00000#32]
    let r := selectRecord (q.w 1)
    s.admits 0x21#8 q = true ∧ 2 ≤ q.len ∧ onlyBits (q.w 1) 0x1FFFFF7 = true ∧ fld (q.w 1) 4 4 ≠ 15 ∧ fld (q.w 1) 0 3 ≠ 7 ∧
    fld (q.w 1) 16 4 ≤ 4 ∧ (layerOfWord r.1 r.2).ok = true ∧ s.noLight = false ∧ s.fuses.lifecycle ≠ .returned ∧
    (s.pattern s.beam.setB 0).w ≠ 0 ∧ (s.pattern s.beam.setB 0).ok s.part = true ∧
    s.injects .layerSet 0 (BitVec.ofNat 32 (fld (q.w 1) 4 4 * 65536)) (BitVec.ofNat 32 65536) true (beBytes r.1 ++ beBytes r.2) = true ∧
    (after (.patternSelect q) s).pour.flight.length = 1 := by decide +kernel
theorem test_level_set :
    let q := ask [0#32, 0x10000#32]
    let limits := if bitOf (q.w 2) 16 then shining.setWord shining.beam.setB 0x2A4 else q.w 2 &&& 0xFFFF#32
    shining.admits 0x22#8 q = true ∧ 3 ≤ q.len ∧ onlyBits (q.w 2) 0x1FFFF = true ∧ targetWordOk (q.w 1) = true ∧
    shining.noLight = false ∧ shining.injects .tableWrite 4 0#32 8#32 true (beBytes (q.w 1) ++ beBytes limits) = true ∧
    (after (.levelSet q) shining).pour.flight.length = 1 := by decide +kernel
theorem test_mask_message :
    let c := ask [0x101FF#32]
    let m := ask (0x1FF#32 :: List.replicate 6 0#32)
    shining.admits 0x30#8 c = true ∧ 2 ≤ c.len ∧ onlyBits (c.w 1) 0x1FFFF = true ∧ 0 < fld (c.w 1) 8 8 ∧
    fld (c.w 1) 0 8 + fld (c.w 1) 8 8 ≤ 256 ∧ shining.noLight = false ∧ bitOf (c.w 1) 16 = true ∧
    shining.injects .maskClear 0 (BitVec.ofNat 32 (255 * 65536)) (BitVec.ofNat 32 65536) false [] = true ∧
    ((after (.maskSetMessage c) shining).pour.flight.map (fun p => p.phase == .armed)) = [true] ∧ bitOf (m.w 1) 16 = false ∧
    2 + 6 * fld (m.w 1) 8 8 ≤ m.len ∧
    shining.injects .maskSet 0 (BitVec.ofNat 32 (255 * 65536)) (BitVec.ofNat 32 65536) false (List.replicate 24 0#8) = true ∧
    ((after (.maskSetMessage m) shining).pour.flight.map (fun p => p.op == .maskSet && p.phase == .armed)) = [true] := by decide +kernel
/-- A flush runs: the pours of LEVEL_SET and PATTERN_SELECT wait behind it, and the lamp leaves for OFF all the same. -/
theorem test_lamp_behind_flush :
    let s := { shining with pour := { shining.pour with flushing := true } }
    let q := ask [0#32, 0x10000#32]
    let o := ask [0#32]
    let l := ask [0x00F00000#32]
    let bs := ([0x00010001#32, 0#32, 0x04000000#32] : List Word).flatMap leBytes
    let p := { s with cru := { s.cru with cells := (List.range' (s.part.setBase false + 0x20) 12).zip bs } }
    shining.feedsNow = true ∧ s.pour.flushing = true ∧ s.admits 0x22#8 q = true ∧ s.noLight = false ∧
    (after (.levelSet q) s).fw.loads.map (·.op) = [.tableWrite] ∧ s.admits 0x20#8 o = true ∧ s.domOn pdPipe = true ∧
    s.ingotTargets .dark = none ∧ (after (.lampState o) s).fw.entering = 1 ∧ p.admits 0x21#8 l = true ∧
    (p.pattern p.beam.setB 0).ok p.part = true ∧ (after (.patternSelect l) p).fw.loads.map (·.op) = [.layerSet] := by decide +kernel
theorem test_stream_loss :
    let s := { shining with time := { shining.time with wrap := 10#32 } }
    s.fwRuns = true ∧ s.fw.lamp = .lit ∧ s.silenceOrigin + s.fw.items.streamTmo * 1000000 ≤ s.extNs ∧
    (after .streamLoss s).fw.fade.isSome = true := by decide +kernel
theorem test_status :
    let s := { shining with fw := { shining.fw with items := { shining.fw.items with routes := 2 } } }
    s.fwRuns = true ∧ s.domOn pdPipe = true ∧ s.statusRoutes = [.port .p0] ∧ (s.hostPort .p0).up = true ∧
    (s.hostPort .p0).inReset = false ∧ (s.pour.results.filter (fun r => !r.inj)).length ≤ 3 ∧ (after .statusMsg s).out.length = 1 := by
  decide +kernel

/-! ### Self-tests, lanes and power -/

theorem test_selftests :
    let q (a : Nat) := ask [0#32, BitVec.ofNat 32 a]
    let f := put lit [(aOf.tunFree 0, 1#32)]
    let g := put lit [(aOf.segCtrl, 1#32)]
    let ran (c : Instr) (s : State) : Option Nat := (after c s).fw.test.map (·.id)
    lit.takesTest 1 (q 0x7F0000) = true ∧ lit.bit aOf.tunMarch 27 = false ∧
    (after (.selftestMarchPreserving (q 0x7F0000)) lit).tun.march = some { block := 0, last := 127, preserving := true } ∧
    f.takesTest 2 (q 0) = true ∧ (after (.selftestMarchDestructive (q 0)) f).tun.march.isSome = true ∧ lit.takesTest 3 (q 0) = true ∧
    lit.cruOn = true ∧ ran (.selftestScrub (q 0)) lit = some 3 ∧ lit.takesTest 4 (q 127) = true ∧ lit.spareBank = some 128 ∧
    ran (.selftestBankRetire (q 127)) lit = some 4 ∧
    lit.takesTest 6 (q 63) = true ∧ lit.laneAlive 63 = true ∧ (after (.selftestEyeScan (q 63)) lit).bit (aOf.laneEye 63) 30 = true ∧
    lit.fw.requests = [] ∧ g.takesTest 8 (q 0) = true ∧ g.segOn = true ∧ g.segEn = true ∧ ran (.selftestSegmentSweep (q 0)) g = some 8 ∧
    lit.takesTest 10 (q 0) = true ∧ (after (.selftestSensorCheck (q 0)) lit).fw.test = none := by decide +kernel
/-- Each test whose engine cannot run is answered with an error. -/
theorem test_selftest_faults :
    let q (a : Nat) := ask [0#32, BitVec.ofNat 32 a]
    let off (d : Nat) := lit.wr (aOf.pwrVote d) 0#32
    let none_ := put lit ((List.range 9).map (fun i => (aOf.cruPstate i, 0x55555555#32)))
    let dead := (List.range' 6 4).foldl (fun (s : State) d => s.wr (aOf.pwrVote d) 0#32) lit
    let failed (c : Instr) (s : State) : Bool :=
      (after c s).fw.test.isNone && (after c s).out.any (fun o => match o with | .reply _ _ h _ => bitOf h 9 | _ => false)
    (lit.setBit aOf.tunMarch 27 true).takesTest 1 (q 0) = true ∧
    failed (.selftestMarchPreserving (q 0)) (lit.setBit aOf.tunMarch 27 true) = true ∧
    (off 5).takesTest 3 (q 0) = true ∧ (off 5).cruOn = false ∧ failed (.selftestScrub (q 0)) (off 5) = true ∧
    none_.takesTest 4 (q 0) = true ∧ none_.spareBank = none ∧ failed (.selftestBankRetire (q 0)) none_ = true ∧
    shining.takesTest 5 (ask [0x100#32, 0x110#32]) = true ∧ shining.sliceAt 16 = none ∧
    failed (.selftestLanePrbs (ask [0x100#32, 0x110#32])) shining = true ∧
    dead.takesTest 6 (q 0) = true ∧ dead.laneAlive 0 = false ∧ failed (.selftestEyeScan (q 0)) dead = true ∧
    (off 4).takesTest 7 (q 0) = true ∧ (off 4).domOn pdPipe = false ∧ failed (.selftestReadbackSweep (q 0)) (off 4) = true ∧
    lit.takesTest 8 (q 0) = true ∧ (lit.segOn && lit.segEn) = false ∧ failed (.selftestSegmentSweep (q 0)) lit = true := by
  decide +kernel
theorem test_selftest_lanes :
    let q (a : Nat) := ask [0x100#32, BitVec.ofNat 32 a]
    let on (st : Nat) := { linked lnUp st with fw := { lit.fw with lamp := .lit } }
    let up := put (on slLit) [(aOf.laneStat 1, 3#32), (aOf.lnkPair 0, 3#32)]
    let ran (c : Instr) (s : State) : Option (Nat × Bool) := (after c s).fw.test.map (fun t => (t.id, t.offline))
    up.takesTest 5 (q 0x200) = true ∧ up.laneAlive 0 = true ∧ up.sliceAt 0 = some 0 ∧ up.canFailOver 0 = true ∧
    ran (.selftestLanePrbs (q 0x200)) up = some (5, false) ∧ (after (.selftestLanePrbs (q 0x200)) up).f (aOf.laneCtrl 0) 8 2 = 2 ∧
    (on slLit).takesTest 5 (q 0) = true ∧ (on slLit).canFailOver 0 = false ∧ ran (.selftestLanePrbs (q 0)) (on slLit) = some (5, true) ∧
    (on slLit).takesTest 7 (q 0) = true ∧ (on slLit).sliceState 0 = slLit ∧
    ((after (.selftestReadbackSweep (q 0)) (on slLit)).slice 0).sweep = true ∧ shining.takesTest 9 (q 0) = true ∧
    ran (.selftestTestFrame (q 0)) shining = some (9, true) ∧ shining.takesTest 11 (q 63) = true ∧
    ran (.selftestPixelScan (q 63)) shining = some (11, true) := by decide +kernel
theorem test_lane_control :
    let q (w : Nat) := ask [0#32, BitVec.ofNat 32 w]
    let s := put (linked lnUp slReady) [(aOf.laneStat 1, 3#32)]
    let l := { s with fw := { s.fw with lamp := .dark } }
    l.takesAction 0 (q 0) = true ∧ l.noLight = false ∧ l.laneState 0 = lnUp ∧ l.laneState 1 = lnUp ∧ l.sliceAt 0 = some 0 ∧
    ((after (.laneCtrlRestore (q 0)) l).slice 0).restore = true ∧ s.takesAction 1 (q 0) = true ∧
    (after (.laneCtrlEnable (q 0)) s).bit (aOf.laneCtrl 0) 2 = true ∧ s.takesAction 2 (q 0) = true ∧
    (after (.laneCtrlDisable (q 0)) s).laneState 0 = lnOff ∧ s.takesAction 3 (q 0) = true ∧
    (after (.laneCtrlRetrain (q 0)) s).laneState 0 = lnTrain ∧ s.takesAction 4 (q 2) = true ∧ onlyBits ((q 2).w 2) 3 = true ∧
    s.rateOverloads 0 2 = false ∧ s.f (aOf.lnkPair 0) 2 2 ≠ 1 ∧ s.f (aOf.lnkPair 0) 2 2 ≠ 2 ∧ (after (.laneCtrlRate (q 2)) s).f (aOf.laneCtrl 1) 0 2 = 2 ∧
    s.takesAction 5 (q 1) = true ∧ onlyBits ((q 1).w 2) 1 = true ∧ (after (.laneCtrlTake (q 1)) s).laneState 0 = lnTest := by decide +kernel
theorem test_power_vote :
    let q (a b : Nat) := ask [BitVec.ofNat 32 a, BitVec.ofNat 32 b]
    let d := { lit with regs := [(aOf.pwrVote 4, 0#32)] ++ (List.range 32).map (fun i => (aOf.evtStat i, 0xFFFFFFFF#32)) }
    let b := { d with pwr := { d.pwr with trans := some { req := ⟨1, 1, 2, 0⟩, goal := 0, raising := false, stage := .domains, domains := [] } } }
    lit.admits 0xB0#8 ((q 0 0x104).sel 0 2 0) = true ∧ 3 ≤ (q 0 0x104).len ∧ onlyBits (((q 0 0x104).sel 0 2 0).w 1) 3 = true ∧
    onlyBits ((q 0 0x104).w 2) 0x10F = true ∧ absentDomain lit.part 4 = false ∧
    (after (.powerVoteDomain (q 0 0x104)) lit).bit (aOf.pwrVote 4) 0 = true ∧ d.admits 0xB0#8 ((q 1 1).sel 0 2 1) = true ∧
    d.fw.lamp = .off ∧ d.dstate pdPipe = 0 ∧ d.nvRefuses = false ∧
    (after (.powerVoteState (q 1 1)) d).pwr.tickets = d.nextTicket ∧ d.domOn pdPipe = false ∧ d.device ≠ 4 ∧
    (after (.powerVoteState (q 1 2)) b).pwr.pendingReq = some ⟨d.nextTicket, 1, 2, 4⟩ ∧ b.pwr.pendingReq = none ∧
    (after (.powerVoteState (q 1 2)) b).fw.requests.length = 1 ∧ lit.admits 0xB0#8 ((q 2 3).sel 0 2 2) = true ∧
    lit.pairsKeep lit.view lit.periodNs 3 = true := by decide +kernel
theorem test_lower_from_burst :
    let q := ask [1#32, 3#32]
    let s := put { lit with fuses := { lit.fuses with part := .uh6416 } } [(aOf.pwrState, 4#32), (aOf.timeFctrl, 1#32)]
    s.admits 0xB0#8 (q.sel 0 2 1) = true ∧ (q.w 2).toNat = 3 ∧ s.device = 4 ∧ s.fw.items.litOp ≤ 2 ∧ s.bit aOf.timeFctrl 0 = true ∧
    s.admissible s.beam.setB s.fw.items.framePeriod s.fw.items.litOp = true ∧
    s.lanesOk s.view s.beam.setB s.fw.items.framePeriod s.fw.items.litOp = true ∧
    s.pairsKeep s.view s.fw.items.framePeriod s.fw.items.litOp = true ∧ s.time.pendTemper = false ∧
    (after (.powerVoteState q) s).time.pendPeriod = some s.fw.items.framePeriod ∧
    (after (.powerVoteState q) { s with time := { s.time with pendTemper := true } }).time.pendPeriod = none := by decide +kernel

/-! ### Power -/

/-- Domain `d` in state `st` with the votes `v`. -/
def dom (s : State) (d st v : Nat) : State := s.wr (aOf.pwrVote d) (BitVec.ofNat 32 (st * 2 ^ 24 + v))

theorem test_votes :
    let off := dom lit 10 0 0
    let drop := BitVec.ofNat 32 (63 * 2 ^ 16)
    lit.canAccess (aOf.pwrVote 10) = true ∧ (after (.voteWrite 10 drop) lit).bit (aOf.pwrVote 10) 3 = false ∧
    (after (.voteWrite 0 drop) lit).f (aOf.pwrVote 0) 0 6 = lit.f (aOf.pwrVote 0) 0 6 ∧
    (after (.voteWrite 10 0x08000000#32) (lit.setBit (aOf.pwrVote 10) 27 true)).bit (aOf.pwrVote 10) 27 = false ∧
    absentDomain lit.part 10 = false ∧ lit.dstate 10 = 2 ∧ fld drop 16 6 = 63 ∧ lit.f (aOf.pwrVote 10) 6 2 = 0 ∧
    (after (.voteWrite 10 drop) lit).dstate 10 = 3 ∧ off.dstate 10 = 0 ∧ off.domOn (domParent 10) = true ∧
    (after (.voteWrite 10 0x100#32) off).dstate 10 = 1 := by decide +kernel
theorem test_domains :
    let up := dom lit 10 1 1
    let dr (d : Nat) := dom lit d 3 0
    let lower : State := { dom (dom (dom lit 6 3 0) 7 3 0) 8 2 8 with pwr := { lit.pwr with drains := [(6, 1), (7, 1)] } }
    let job : AvsJob := { op := 1, up := true, settling := false, before := 2 }
    let pipe : State := { dom lit 4 1 1 with pwr := { lit.pwr with avsJob := some job } }
    up.voltWaits 10 = false ∧ pipe.dstate 4 = 1 ∧ pipe.voltWaits 4 = true ∧ (after (.domainOn 4) pipe).dstate 4 = 1 ∧
    lower.mayLeave 7 = false ∧ lower.mayLeave 6 = true ∧ (after (.drainEnd 7) lower).dstate 7 = 3 ∧
    (after (.drainEnd 6) lower).dstate 6 = 0 ∧ (after (.drainEnd 7) (after (.drainEnd 6) lower)).dstate 7 = 0 ∧
    up.dstate 10 = 1 ∧ up.domOn (domParent 10) = true ∧ up.f (aOf.pwrVote 10) 0 6 ≠ 0 ∧ (after (.domainOn 10) up).dstate 10 = 2 ∧
    (dr 10).dstate 10 = 3 ∧ (dr 10).mayLeave 10 = true ∧ (dr 10).wanted 10 = false ∧ (after (.drainEnd 10) (dr 10)).dstate 10 = 0 ∧
    (after (.drainTimeout 10) (dr 10)).bit (aOf.pwrVote 10) 27 = true ∧ (after (.drainTimeout 10) (dr 10)).out = [.domainOff] := by
  decide +kernel
theorem test_crucible_retained :
    let s := (dom (dom ((List.range' 6 5).foldl (fun s d => dom s d 0 0) lit) 4 0 0) 5 3 0).setBit aOf.pwrCtrl 0 true
    s.dstate 5 = 3 ∧ s.wanted 5 = false ∧ s.bit aOf.pwrCtrl 0 = true ∧ (after (.drainEnd 5) s).dstate 5 = 4 := by decide +kernel
theorem test_dma :
    let x : DmaDesc := { src := 0x20000000, dst := 0x20000000 + 8, len := 4, faults := [] }
    let s := lit.cruPut 0 [1#8, 2#8, 3#8, 4#8]
    let r := { s with pwr := { s.pwr with dma := some x } }
    let u := { s with pwr := { s.pwr with dma := some { x with faults := [(0, .uncorrectable)] } } }
    s.pwr.dma = none ∧ domOfAddr s.part x.src ≠ none ∧ s.addrOn x.src = true ∧ s.addrOn x.dst = true ∧
    (after (.dmaTransfer x) s).pwr.dma = some x ∧ (dom s 5 0 0).addrOn x.src = false ∧
    (after (.dmaTransfer x) (dom s 5 0 0)).out = [.domainOff] ∧ r.pwr.dma = some x ∧ 0 + 4 ≤ s.part.cruSize ∧ r.cru.poison = [] ∧ r.part.runnerWord 0 = false ∧
    (after .dmaTransferEnd u).cru.poison = [0] ∧ (after .dmaTransferEnd u).out.head? = some .busError ∧ r.domOn pdCru = true ∧ (after .dmaTransferEnd r).pwr.dma = none ∧ (after .dmaTransferEnd r).cruWord 8 = 0x04030201#32 := by
  decide +kernel

/-- A transition of operating point that runs. -/
def moving (raising : Bool) (goal : Nat) (stage : TransStage) : State :=
  { lit with pwr := { lit.pwr with trans := some { req := ⟨1, 2, goal, 0⟩, goal := goal, raising := raising, stage := stage, domains := [] } } }

theorem test_requests :
    let m := moving true 2 .settle
    let p := { m with pwr := { m.pwr with pendingReq := some ⟨9, 2, 0, 0⟩ } }
    let w := { lit with pwr := { lit.pwr with pendingReq := some ⟨9, 2, 3, 0⟩ } }
    let z := lit.setF aOf.pwrState 4 2 0
    lit.canAccess aOf.pwrReq = true ∧ reqValid 1 5 4 = true ∧ reqValid 2 0 2 = true ∧ reqValid 2 6 2 = false ∧
    m.pwr.trans.isSome = true ∧ p.pwr.pendingReq = some ⟨9, 2, 0, 0⟩ ∧ p.pwr.done.length < 8 ∧
    (after (.pwrReqOp p.active.master 5 1) p).pwr.done.map (·.status) = [12] ∧ lit.pwr.trans = none ∧ lit.pwr.stepTrans = none ∧
    lit.pwr.pendingReq = none ∧ lit.reqDenied ⟨lit.nextTicket, 2, 3, 0⟩ = true ∧
    lit.inForce ⟨lit.nextTicket, 2, 3, 0⟩ = false ∧ (after (.pwrReqOp lit.active.master 0 lit.op) lit).pwr.done.map (·.status) = [0] ∧
    (after (.pwrReqOp lit.active.master 0 lit.op) lit).pwr.trans = none ∧
    (after (.pwrReqOp lit.active.master 0 3) lit).pwr.done.map (·.status) = [4] ∧
    z.reqDenied ⟨z.nextTicket, 2, 2, 0⟩ = false ∧ 2 ≠ z.op ∧ z.domOn pdPipe = true ∧ z.canAccess aOf.pwrReq = true ∧ z.pwr.trans = none ∧
    (after (.pwrReqOp z.active.master 0 2) z).f aOf.pwrState 6 2 = 2 ∧ (after (.pwrReqOp z.active.master 0 2) z).pwr.volt = 2 ∧
    w.pwr.pendingReq.isSome = true ∧ w.reqDenied ⟨9, 2, 3, 0⟩ = true ∧ w.inForce ⟨9, 2, 3, 0⟩ = false ∧ (after .requestStart w).pwr.done.map (·.ticket) = [9] := by
  decide +kernel
theorem test_operating_point :
    (moving true 2 .edge).domOn pdPipe = true ∧ (after .opSwitch (moving true 2 .edge)).op = 2 ∧
    (after .opSwitch (moving true 2 .edge)).pwr.done.map (·.status) = [0] ∧ (after .opSwitch (moving false 0 .edge)).pwr.volt = 0 ∧
    ((after .pllPrepareEnd (moving true 2 .pll)).pwr.trans.map (·.stage == .edge)) = some true ∧
    ((after (.avsTransactionEnd true) (moving true 2 .avs)).pwr.trans.map (·.stage == .settle)) = some true ∧
    (after (.avsTransactionEnd false) (moving true 2 .avs)).pwr.done.map (·.status) = [4] ∧
    (after (.avsTransactionEnd false) (moving false 0 .avs)).bit aOf.pwrState 9 = true ∧
    ((after .avsSettleEnd (moving true 2 .settle)).pwr.trans.map (·.stage == .pll)) = some true ∧
    (after .avsSettleEnd (moving false 0 .settle)).pwr.done.map (·.status) = [0] ∧ lit.canAccess aOf.pwrDone = true ∧
    (after .powerDonePop (after .avsSettleEnd (moving false 0 .settle))).pwr.done = [] := by decide +kernel
/-- VOUT_COMMANDs outside a transition: the voltage of PD_PIPE's switch-on settles, or fails as R273 says, and a code sent again. -/
theorem test_avs_job :
    let j : AvsJob := { op := 2, up := true, settling := false, before := 1 }
    let s (j : AvsJob) := { lit with pwr := { lit.pwr with avsJob := some j } }
    (moving true 2 .avs).pwr.avsJob = none ∧ ((after (.avsTransactionEnd true) (s j)).pwr.avsJob.map (·.settling)) = some true ∧
    (after (.avsTransactionEnd false) (s j)).pwr.volt = 1 ∧
    (after (.avsTransactionEnd false) (s { j with op := 1, before := 2 })).bit aOf.pwrState 9 = true ∧
    (after (.avsTransactionEnd true) (s { j with up := false })).pwr.avsJob = none ∧
    (after .avsSettleEnd (s { j with settling := true })).pwr.avsJob = none := by decide +kernel
theorem test_wake :
    let h := { lit with pwr := { lit.pwr with hibernating := true } }.setBit aOf.pwrCtrl 4 true
    h.armed .wakePin = true ∧ .wakePin ∉ h.pwr.wakePending ∧ h.dstate pdCtrl = 2 ∧ (after (.wake .wakePin) h).pwr.wakePending = [.wakePin] ∧
    (after (.wake .wakePin) (dom h 1 3 0)).pwr.wakePending = [.wakePin] ∧ (dom h 1 3 0).dstate pdCtrl = 3 ∧
    (dom h 1 0 0).dstate pdCtrl = 0 ∧ (dom h 1 0 0).domOn 11 = true ∧ (after (.wake .wakePin) (dom h 1 0 0)).dstate pdCtrl = 1 := by
  decide +kernel
theorem test_power_fail :
    let low := { lit with pins := { lit.pins with pfailLow := true } }
    let sv := { lit with pwr := { lit.pwr with saving := true } }
    let wt := (dom sv 5 4 0).setBit aOf.pwrCtrl 1 true
    lit.pins.pfailLow = false ∧ lit.pwr.saving = false ∧ lit.f (aOf.pwrVote pdCtrl) 0 6 ≠ 0 ∧ (after .pfail lit).pwr.saving = true ∧
    (after .pfail lit).nvRefuses = true ∧ sv.pwr.saving = true ∧ (after .pfail sv).pins.pfailLow = true ∧
    sv.saveWaits = false ∧ wt.saveWaits = true ∧
    (after .pfailSaved wt).pwr.saving = true ∧
    low.pins.pfailLow = true ∧ (after .pfailCleared low).pins.pfailLow = false := by
  decide +kernel
theorem test_resets :
    let low := { lit with pins := { lit.pins with hostrstLow := true } }
    (after .porstAssert lit).device = 0 ∧ (after (.supplyMonitorTrip .vddNv) lit).alive = false ∧ lit.pins.hostrstLow = false ∧
    (after .hostReset lit).core .cp0 = .reset ∧ (after .hostReset lit).gen 1 = (lit.gen 1 + 1) % 16 ∧ low.pins.hostrstLow = true ∧
    (after .hostResetRelease low).core .cp1 = .rom ∧ (after .testmodeEntry lit).alive = false ∧
    (after (.powerOnReset ⟨1#2, true⟩ [127]) lit).blockBit (aOf.tunBad 0) 127 = true ∧
    (after (.powerOnReset ⟨1#2, true⟩ [127]) lit).fuses.straps = ⟨1#2, true⟩ := by decide +kernel
/-- R331: of the units that waited for the array at power-up, the one whose write had begun is completed. -/
theorem test_reset_completes_unit :
    let s := { lit with nv := { lit.nv with queue := [(0x8000, [1#8, 2#8]), (0x9000, [3#8])] } }
    let t := after (.powerOnReset ⟨0#2, false⟩ []) s
    s.pwr.saving = false ∧ t.nvBytes 0x8000 2 = [1#8, 2#8] ∧ t.nvBytes 0x9000 1 = [0#8] ∧ t.nv.queue = [] := by decide +kernel

/-! ### The NV store and the sensors -/

theorem test_nv_units :
    let u : List (Nat × List Byte) := [(0x8000, [1#8, 2#8])]
    let q (n : Nat) := { lit with nv := { lit.nv with queue := List.replicate n (0x8000, [1#8, 2#8]) } }
    lit.canAccess aOf.nvcWcmd = true ∧ lit.nvRefuses = false ∧ lit.nvProtected (32767 * 32) = false ∧ (q 3).nv.queue.length < 4 ∧
    (after (.nvUnitWrite .cp0 32767) (q 3)).nv.queue.length = 4 ∧ (after (.nvUnitWrite .cp0 32767) (q 3)).f aOf.nvcStat 0 3 = 0 ∧
    (after (.nvUnitWrite .cp0 32767) (q 4)).out = [.busError] ∧ (lit.setF aOf.nvcCtrl 0 2 1).nvProtected (32767 * 32) = true ∧
    (after (.nvUnitWrite .cp0 32767) (lit.setF aOf.nvcCtrl 0 2 1)).out = [.busError] ∧ lit.nvOn = true ∧ (q 1).nv.queue = u ∧
    (q 1).nv.wear = false ∧
    (after .nvUnitDone (q 1)).nvBytes 0x8000 3 = [1#8, 2#8, 0#8] := by decide +kernel
/-- The wear engine and the queue take turns, unit by unit (R284). -/
theorem test_nv_turns :
    let w := { lit with nv := { lit.nv with wear := true, queue := [(0x8000, [1#8])] } }
    w.nvOn = true ∧ w.nv.wear = true ∧ w.nv.wearAt < 8192 ∧ w.bpCovers (recBody 4 w.wearCopy) = false ∧
    (after .nvUnitDone w).nv.wearAt = 1 ∧ (after .nvUnitDone w).nv.queue = [] := by decide +kernel
theorem test_nv_window :
    let b := { lit with nv := { lit.nv with bad := [1] } }
    let w := { lit with nv := { lit.nv with queue := [(0x1000, [1#8]), (0x8000, [2#8])] } }
    let k := { lit with nv := { lit.nv with weak := [1] } }
    lit.domOn pdNv = true ∧ 8 / 8 ∉ ((lit.nvMark 8 .clean).nvStall 8).nv.bad ∧ (after (.nvWindowRead .cp0 8 .clean) lit).out = [.data 0#32] ∧
    8 / 8 ∈ ((b.nvMark 8 .clean).nvStall 8).nv.bad ∧ (after (.nvWindowRead .cp0 8 .clean) b).f aOf.nvcEcc 0 20 = 8 ∧
    (after (.nvWindowRead .cp0 0xFFFFC .uncorrectable) lit).out = [.busError] ∧
    w.nv.queue.any (fun x => x.1 / 4096 == 0x1FFC / 4096) = true ∧ (after (.nvWindowRead .cp0 0x1000 .clean) w).out = [.data 1#32] ∧
    (after (.nvWindowRead .cp0 0x1000 .clean) w).nv.queue = [] ∧ (after (.nvWindowRead .cp0 0x2000 .clean) w).nv.queue = w.nv.queue ∧
    8 / 8 ∈ ((k.nvMark 8 .clean).nvStall 8).nv.weak ∧ k.nvProtected 8 = false ∧ (after (.nvWindowRead .cp0 8 .clean) k).nv.weak = [] ∧
    (after (.nvWindowRead .cp0 8 .corrected) lit).f aOf.nvcEcc 24 8 = 1 := by
  decide +kernel
theorem test_nv_controls :
    let w := { lit with nv := { lit.nv with wear := true } }
    lit.canAccess aOf.nvcCtrl = true ∧ (after .nvLock lit).bit aOf.nvcCtrl 31 = true ∧ lit.canAccess aOf.nvcWear = true ∧
    lit.nv.wear = false ∧ lit.nvRefuses = false ∧ lit.domOn pdCru = true ∧ (after .wearSave lit).nv.wear = true ∧ (dom lit 5 0 0).domOn pdCru = false ∧
    (after .wearSave (dom lit 5 0 0)).out = [.domainOff] ∧ w.nv.wear = true ∧ w.bpCovers (recBody 4 1) = false := by decide +kernel
theorem test_log :
    let s := lit.logPush (List.replicate 6 1#32)
    let h := put lit [(aOf.pwrLitsec, 3600#32)]
    s.fwRuns = true ∧ s.nvRefuses = false ∧ s.nvProtected 0x40000 = false ∧ s.fw.logLost = 0 ∧ s.tailCount = 1 ∧
    (after .logAppend s).tailCount = 0 ∧ (after .logAppend s).f aOf.nvcLogptr 0 12 = 1 ∧
    (after .logAppend s).nvBytes 0x40000 32 = s.tailRecord 0 ∧ 3600 ≤ (h.rd aOf.pwrLitsec).toNat - h.fw.litSaved ∧
    h.bpCovers (recHdr 2 (1 - h.f aOf.nvcWear 1 1)) = false ∧ (after .litHourSave h).fw.litSaved = 3600 := by decide +kernel
theorem test_adc :
    let r : AdcReadings := { ain := List.replicate 7 5#12, ts := List.replicate 16 (List.replicate 4 0#16) }
    lit.calOn = true ∧ r.ain.length = 7 ∧ r.ts.length = 16 ∧ (after (.adcSchedule r) lit).rd (aOf.calAin 7) = 5#32 ∧
    (after (.ain0Conversion 9#12) lit).rd (aOf.calAin 0) = 9#32 ∧ lit.canAccess (aOf.calTsctl 15) = true ∧
    (after (.calApply 15) lit).cal.pendApply = [15] := by decide +kernel
theorem test_calibration :
    let rs (l : List Int) : List (Option Int) := l.map some
    let run (l : List Nat) := { lit with cal := { lit.cal with calRun := some l } }
    lit.canAccess aOf.calCmd = true ∧ lit.cal.calRun = none ∧ (after (.calStart 0x20#8) lit).cal.calRun = some (List.range 16) ∧
    (run [3]).cal.calRun.isSome = true ∧ (after (.calStart 3#8) (run [3])).f aOf.calCmd 0 8 = 3 ∧
    (after (.calStart 3#8) (run [3])).cal = (run [3]).cal ∧ calObjects 0x21 = [] ∧ (after (.calStart 0x21#8) lit).f aOf.calCmd 0 8 = 0x21 ∧
    (sensorCal (rs [0, 0, 0, 0]) (rs [0, 0, 0, 0])).cause = 0 ∧
    (after (.calEnd (.sensor (rs [0, 0, 0, 0]) (rs [0, 0, 0, 0]))) (run [3])).cal.calRun = none ∧
    (sensorCal (rs [0, 0, 0, 600]) (rs [0, 0, 0, 0])).failed ≠ 0 ∧ (sensorCal [] []).cause ≠ 0 ∧
    (after (.calEnd (.sensor [] [])) (run [3])).bit aOf.calCmd 29 = true ∧
    (after (.calEnd (.adc 2500 [500, -500] [7#16, 9#16])) (run [16])).f (aOf.calAdc 1) 0 16 = 9 ∧
    (after (.calEnd (.adc 2449 [0, 0] [7#16, 9#16])) (run [16])).rd (aOf.calAdc 1) = lit.rd (aOf.calAdc 1) ∧
    lit.bit aOf.calCtrl 2 = false := by decide +kernel
theorem test_cal_timeout :
    let r : Request := ⟨0x60#8, ask [], .calEnd, none, 0#32⟩
    let s := { lit with fw := { lit.fw with requests := [r] } }
    s.fwRuns = true ∧ s.fw.requests = [r] ∧ (ask []).gen.toNat = s.gen 0 ∧ s.answersNow (ask []) 2 = true ∧
    (after .calRunTimeout s).fw.requests = [] ∧ s.replyTo 0x60#8 (ask []) 7 0 [] ∈ (after .calRunTimeout s).out := by decide +kernel

end Sys2Proof.Tests
end

section
/-! The mask gate and stage S6 (R37, R51): the gate fold is the minimum of 1 and the terms of the masks in force. -/

namespace Sys2Proof.Machine

open Sys2Proof

/-- F8 fractions below the last code stand for themselves (R37). -/
theorem f8_of_le {a : Nat} (h : a ≤ 254) : f8 a = a := if_neg (by omega)

/-- The term 1 − c × D of a mask at optical coordinates `o`, in units of 1/65,536 (R51). -/
def State.maskTerm (s : State) (o : Int × Int) (m : Mask) : Nat :=
  65536 - (m.cover (s.content m.offsetEn o)).toNat * f8 m.depth

/-- The terms of the masks in force, in the order of the table. -/
def State.maskTerms (s : State) (o : Int × Int) : List Nat :=
  (s.beam.masks.filter (·.2.inForce)).map fun e => s.maskTerm o e.2

theorem State.mem_maskTerms {s : State} {o : Int × Int} {g : Nat} :
    g ∈ s.maskTerms o ↔ ∃ e ∈ s.beam.masks, e.2.inForce = true ∧ s.maskTerm o e.2 = g := by
  simp [State.maskTerms, and_assoc]

/-- R51's minimum: a mask not in force drops out of the fold, and with no mask in force the gate is 1. -/
theorem State.gate_eq_min (s : State) (o : Int × Int) :
    s.gate o = (65536 :: s.maskTerms o).min (List.cons_ne_nil _ _) := by
  rw [List.min, State.maskTerms, List.foldl_map, List.foldl_filter]
  rfl

theorem State.gate_le_one (s : State) (o : Int × Int) : s.gate o ≤ 65536 := by
  rw [s.gate_eq_min o]
  exact List.min_le_of_mem List.mem_cons_self

theorem State.gate_le_maskTerm {s : State} (o : Int × Int) {e : Nat × Mask} (he : e ∈ s.beam.masks)
    (hf : e.2.inForce = true) : s.gate o ≤ s.maskTerm o e.2 := by
  rw [s.gate_eq_min o]
  exact List.min_le_of_mem (List.mem_cons_of_mem _ (State.mem_maskTerms.mpr ⟨e, he, hf, rfl⟩))

theorem State.gate_eq_one_or_maskTerm (s : State) (o : Int × Int) :
    s.gate o = 65536 ∨ ∃ e ∈ s.beam.masks, e.2.inForce = true ∧ s.gate o = s.maskTerm o e.2 := by
  have hmem : s.gate o ∈ 65536 :: s.maskTerms o := s.gate_eq_min o ▸ List.min_mem _
  rcases List.mem_cons.mp hmem with hone | hterm
  · exact .inl hone
  · obtain ⟨e, he, hf, hg⟩ := State.mem_maskTerms.mp hterm
    exact .inr ⟨e, he, hf, hg.symm⟩

/-- S6 takes the drive of S5 times the gate, rounded half to even, to the transfer curve (R51). -/
theorem State.shade_level (s : State) (b : Bool) (ds : List Defect) (r : Nat) (g : Region) (x y : Nat) :
    (s.shade b ds r g x y).level = s.curve b g.plane (sat20 (roundEven
      (sat20 (roundEven ((s.shade b ds r g x y).drive * (s.factors (tileOf x y)).f : Nat) 16384) *
        s.gate (s.optical b r (x - g.x0) (y - g.y0)) : Nat) 65536)) := by
  simp only [State.shade]

/-- Settles O19: the gate is the minimum of 1 and the terms of the masks in force, and S6 is the gated line of `shade`. -/
theorem maskGate : Obligations.MaskGate :=
  ⟨fun _ => f8_of_le, rfl,
    fun s o => ⟨s.gate_le_one o, fun _ => State.gate_le_maskTerm o, s.gate_eq_one_or_maskTerm o⟩,
    State.shade_level⟩

end Sys2Proof.Machine
end

section
/-! The conversion tables (R96, R110): which bits of a word a table entry takes, and what a valid NTC reading is. -/

namespace Sys2Proof.Machine

open Sys2Proof

/-- A field from bit 0 keeps the low bits of the word and ignores the others. -/
theorem fld_low (w : Word) (len : Nat) : fld w 0 len = w.toNat % 2 ^ len := by
  rw [fld, pow_zero, Nat.div_one]

/-- Entry `i` of the transfer curve of plane `p`: bits 19:0 of its word (R96). -/
def State.curveEntry (s : State) (b : Bool) (p i : Nat) : Int :=
  (s.setWord b (offCurve p + 4 * i)).toNat % 2 ^ 20

theorem State.curveEntry_eq_fld (s : State) (b : Bool) (p i : Nat) :
    s.curveEntry b p i = fld (s.setWord b (offCurve p + 4 * i)) 0 20 := by
  rw [State.curveEntry, fld_low]
  norm_cast

/-- S7 interpolates between the entry of the drive's high bits and the next one, the last entry taken as its own
neighbour (R96). -/
theorem State.curve_eq_interpolation (s : State) (b : Bool) (p d : Nat) :
    s.curve b p d = sat20 (roundEven (s.curveEntry b p (d / 256) * 256 +
      ((if d / 256 < 4095 then s.curveEntry b p (d / 256 + 1) else s.curveEntry b p 4095) -
        s.curveEntry b p (d / 256)) * (d % 256 : Nat)) 256) := by
  simp only [State.curveEntry_eq_fld]
  rfl

/-- A reading is valid where its input is not STALE and a conversion came within the last 100 ms, and it is then the
conversion of the code in CAL_AIN (R110). -/
theorem State.ntcReading_eq_some {s : State} {j : Nat} {v : Int} :
    s.ntcReading j = some v ↔
      s.bit (aOf.calAin j) 31 = false ∧ tget (fun _ => 0) s.cal.ntcSeen j ≠ 0 ∧
        s.extNs + 1 - tget (fun _ => 0) s.cal.ntcSeen j ≤ 100000000 ∧
        s.ntcTemp (s.f (aOf.calAin j) 0 12) = v := by
  simp [State.ntcReading, and_assoc]

/-- Settles O20: each half is the interpolation of its table, the NTC's at the code that a valid reading holds. -/
theorem conversionTables : Obligations.ConversionTables := by
  refine ⟨State.curve_eq_interpolation, fun s j c v hcode hreading => ?_⟩
  obtain ⟨-, -, -, rfl⟩ := State.ntcReading_eq_some.mp hreading
  rw [hcode]
  rfl

end Sys2Proof.Machine
end

section
/-! A write to TIME_SET (R172): what it loads, what moves with the clock, and the refusal while frame edges are on. That running
firmware moves `base_ns` by the opposite amount at once is the model's choice (log 75). -/

namespace Sys2Proof.Machine

open Sys2Proof

/-- A frame of the state with its outputs cleared is one of the state itself. -/
theorem AtMost.of_begin {cs : List Comp} {as : List Nat} {s t : State} (h : AtMost cs as s.begin t) : AtMost cs as s t where
  queue := h.queue
  units c hc := by
    have same := h.units c hc
    cases c <;> exact same
  regs := h.regs

/-- A domain that is ON is powered. -/
theorem State.domLive_of_domOn {s : State} {d : Nat} (h : s.domOn d = true) : s.domLive d = true := by
  rw [State.domLive, show (s.dstate d == 2) = true from h, Bool.true_or]

/-- The time base as TIME_SET loads it. -/
def State.loadTime (s : State) (v : Word) : State := { s with time := { s.time with ns := v, frac := 0#32 } }

@[simp] theorem State.loadTime_ns (s : State) (v : Word) : (s.loadTime v).time.ns = v := rfl
@[simp] theorem State.loadTime_frac (s : State) (v : Word) : (s.loadTime v).time.frac = 0#32 := rfl
@[simp] theorem State.loadTime_wrap (s : State) (v : Word) : (s.loadTime v).time.wrap = s.time.wrap := rfl

/-- The step of the clock that TIME_SET makes, in ns. -/
def State.timeStep (s : State) (v : Word) : Int := (s.loadTime v).extNs - s.extNs

/-- Firmware takes a step of the clock out of `base_ns`. -/
def State.lowerBaseNs (s : State) (d : Int) : State :=
  { s with fw := { s.fw with servo := { s.fw.servo with baseNs := s.fw.servo.baseNs - d } } }

/-- The units a clock that is set reaches: the time base, the instants kept in the link, processor and sensor units, and
firmware. -/
theorem State.atMost_timeUnits (s : State) (time link cpu fw cal) :
    AtMost [.time, .link, .cpu, .fw, .cal] [] s
      { s with time := time, link := link, cpu := cpu, fw := fw, cal := cal } where
  queue := rfl
  units c hc := by cases c <;> simp_all [Comp.Same]
  regs _ _ := rfl

section TimeSetOp

variable {s : State} (v : Word)

/-- With frame edges on, TIME_SET loads nothing and raises event 67. -/
theorem State.timeSetOp_of_edgesOn (h : s.bit aOf.timeFctrl 0 = true) : s.timeSetOp v = s.raise 67 := if_pos h

/-- With frame edges off, TIME_SET loads the time base, and the instants kept and running firmware's `base_ns` follow. -/
theorem State.timeSetOp_of_edgesOff (h : s.bit aOf.timeFctrl 0 = false) :
    s.timeSetOp v =
      ((s.loadTime v).shiftInstants (s.timeStep v)).when s.fwRuns (·.lowerBaseNs (s.timeStep v)) :=
  if_neg (by simp [h])

/-- The time base after the write is the one loaded, whatever else follows the clock. -/
theorem State.timeSetOp_time (h : s.bit aOf.timeFctrl 0 = false) :
    (s.timeSetOp v).time = (s.loadTime v).time := by
  rw [State.timeSetOp_of_edgesOff v h]
  exact State.when_proj State.time _ _ _ rfl

/-- Running firmware keeps the extended time: the step of the clock comes out of `base_ns` again. -/
theorem State.timeSetOp_nowExt (h : s.bit aOf.timeFctrl 0 = false) (hf : s.fwRuns = true) :
    (s.timeSetOp v).nowExt = s.nowExt := by
  rw [State.timeSetOp_of_edgesOff v h, hf, State.when_true]
  calc s.fw.servo.baseNs - s.timeStep v + (s.loadTime v).extNs
      = s.fw.servo.baseNs + s.extNs := by rw [State.timeStep]; ring

/-- Nothing but the units of the clock changes, with firmware running or not. -/
theorem State.timeSetOp_atMost (h : s.bit aOf.timeFctrl 0 = false) :
    AtMost [.time, .link, .cpu, .fw, .cal] [] s (s.timeSetOp v) := by
  rw [State.timeSetOp_of_edgesOff v h]
  cases s.fwRuns <;> exact s.atMost_timeUnits _ _ _ _ _

/-- TIME_SET that reaches its register answers the state after its operation. -/
theorem exec_timeSet (h : s.canAccess aOf.timeSet = true) : exec (.timeSet v) s = .next (s.begin.timeSetOp v) :=
  congrArg done (State.access_of _ ((State.begin_canAccess s _).trans h))

end TimeSetOp

/-- Settles O23: what the write does, by whether frame edges are on. -/
theorem timeSet : Obligations.TimeSet := by
  intro s v haccess
  refine ⟨fun hoff => ⟨_, exec_timeSet v haccess, ?_⟩, fun hon => ⟨_, exec_timeSet v haccess, ?_⟩⟩
  · have htime := State.timeSetOp_time (s := s.begin) v hoff
    exact ⟨by simp [htime], by simp [htime], by simp [htime],
      State.timeSetOp_nowExt (s := s.begin) v hoff, (State.timeSetOp_atMost (s := s.begin) v hoff).of_begin⟩
  · rw [State.timeSetOp_of_edgesOn (s := s.begin) v hon]
    exact ⟨rfl, State.raise_time _ 67,
      fun hctrl => State.raiseD_evSet s.begin 67 0#32 (by decide) (State.domLive_of_domOn hctrl)⟩

end Sys2Proof.Machine
end

section
/-! Requests answered with a reply alone, and LOG_READ (R259). Serving such a request reaches only what a reply reaches
(R224, R236, R242), so the registers stand and the reply is the one the state after it would still give. -/

namespace Sys2Proof.Machine

open Sys2Proof

/-! ### What taking a request and replying to it may change -/

/-- `s.Replied t`: from `s`, requests have been taken and replies posted, and nothing else has happened to reach `t`. -/
inductive State.Replied (s : State) : State → Prop
  | mk (out : List Out) (mbx : Tab Fifo) (free : Nat) (outbox : List (BitVec 4 × List Word)) (lost : Nat) (arrival : Word) :
    s.Replied { s with
      out := out, mbx := mbx, free := free, fw := { s.fw with outbox := outbox, repliesLost := lost, arrival := arrival } }

namespace State.Replied

variable {s t u : State}

theorem refl (s : State) : s.Replied s :=
  .mk s.out s.mbx s.free s.fw.outbox s.fw.repliesLost s.fw.arrival

theorem trans (hst : s.Replied t) (htu : t.Replied u) : s.Replied u := by
  obtain ⟨⟩ := hst
  obtain ⟨⟩ := htu
  exact .mk ..

theorem rd_eq (h : s.Replied t) (a : Nat) : t.rd a = s.rd a := by
  obtain ⟨⟩ := h
  rfl

theorem replyTo_eq (h : s.Replied t) (op : BitVec 8) (q : Msg) (status detail : Nat) (ws : List Word) :
    t.replyTo op q status detail ws = s.replyTo op q status detail ws := by
  obtain ⟨⟩ := h
  rfl

end State.Replied

/-- The state in which firmware acts on a request: its arrival is stamped (R22). -/
def State.taken (s : State) : State := { s.drawn with fw := { s.drawn.fw with arrival := s.stampOf false } }

theorem State.replied_begin_taken (s : State) : s.Replied s.begin.taken :=
  .mk [] s.mbx (s.free + 1) s.fw.outbox s.fw.repliesLost _

theorem State.replied_drainOutbox (n : Nat) (s : State) : s.Replied (drainOutbox n s) := by
  induction n generalizing s with
  | zero => exact .refl s
  | succ n ih =>
    rw [drainOutbox]
    split
    case h_1 => exact .refl s
    case h_2 g ws r _ =>
      split
      · exact .trans (.mk s.out s.mbx s.free r s.fw.repliesLost s.fw.arrival) (ih _)
      · split
        · exact .trans (.mk _ _ (s.free + 1) r s.fw.repliesLost s.fw.arrival) (ih _)
        · exact .refl s

theorem State.replied_reply (s : State) (op : BitVec 8) (q : Msg) (status detail : Nat) (ws : List Word) :
    s.Replied (s.reply op q status detail ws) := by
  unfold State.reply
  split
  · exact .refl s
  · cases q.route with
    | spi => exact .trans (.mk s.out s.mbx s.free _ s.fw.repliesLost s.fw.arrival) (State.replied_drainOutbox _ _)
    | port p =>
      dsimp only
      split
      · exact .mk _ s.mbx s.free s.fw.outbox s.fw.repliesLost s.fw.arrival
      · exact .mk s.out s.mbx s.free s.fw.outbox _ s.fw.arrival

/-- A request taken comes from the sender's current generation (R224). -/
theorem State.gen_of_admits {s : State} {op : BitVec 8} {q : Msg} (h : s.admits op q = true) : q.gen.toNat = s.gen 0 := by
  simp only [State.admits, Bool.and_eq_true, decide_eq_true_eq] at h
  obtain ⟨⟨-, hgen⟩, -⟩ := h
  exact hgen

/-- A message whose operation is one reply answers with that reply and leaves every register as it is. -/
theorem answers_of_reply {c : Instr} {s : State} {op : BitVec 8} {q : Msg} {f : State → State} {status detail : Nat}
    {ws : List Word} (hadmits : s.admits op q = true) (hexec : exec c s = done (s.begin.receive op q f))
    (hreply : f s.begin.taken = s.begin.taken.reply op q status detail ws) :
    Answers c s op q status detail ws (fun t => ∀ a, t.rd a = s.rd a) := by
  have hserved : s.begin.receive op q f = s.begin.taken.reply op q status detail ws :=
    (State.receive_of (s := s.begin) f hadmits).trans hreply
  have hframe := s.begin.taken.replied_reply op q status detail ws
  refine ⟨_, hexec.trans (congrArg done hserved), (s.replied_begin_taken.trans hframe).rd_eq, fun hnow => ?_⟩
  have hout := State.reply_out (s := s.begin.taken) (op := op) (d := detail) (State.gen_of_admits hadmits) hnow
  rw [hout, hframe.replyTo_eq]
  exact List.mem_append_right _ (List.mem_singleton_self _)

/-! ### The operation of LOG_READ -/

/-- The words that answer an index into the log: the records held with the index, and the record of ring slot `k`. -/
def State.logWords (s : State) (i k : Nat) : List Word :=
  BitVec.ofNat 32 (i * 65536 + s.logNewest.length) :: (List.range 8).map (fun j => s.nvWord (0x40000 + k * 32 + 4 * j))

/-- An index within the records held is answered with its record, counted back from the newest. -/
theorem State.logReadOp_of_lt {s : State} {q : Msg} (h : fld (q.w 1) 0 16 < s.logNewest.length) (hlen : 2 ≤ q.len)
    (hbits : onlyBits (q.w 1) 0xFFFF = true) :
    s.logReadOp q = s.reply 0xC0#8 q 0 0 (s.logWords (fld (q.w 1) 0 16) s.logNewest[fld (q.w 1) 0 16]) := by
  simp only [State.logReadOp, List.getElem?_eq_getElem h]
  exact State.judge_of _ (by simp [hbits]; omega)

/-- An index at or beyond the records held gives INVALID, whatever else is wrong with the request. -/
theorem State.logReadOp_of_le {s : State} {q : Msg} (h : s.logNewest.length ≤ fld (q.w 1) 0 16) :
    s.logReadOp q = s.reply 0xC0#8 q 2 0 [] := by
  simp only [State.logReadOp, List.getElem?_eq_none h]
  rfl

theorem exec_logRead (q : Msg) (s : State) :
    exec (.logRead q) s = done (s.begin.receive 0xC0#8 q (·.logReadOp q)) := rfl

/-- Settles O50: the reply of each branch of the operation, by whether a record stands at the index. -/
theorem logRead : Obligations.LogRead := fun s q hadmits =>
  ⟨fun hlt hlen hbits =>
      answers_of_reply hadmits (exec_logRead q s) (State.logReadOp_of_lt (s := s.begin.taken) hlt hlen hbits),
    fun hle => answers_of_reply hadmits (exec_logRead q s) (State.logReadOp_of_le (s := s.begin.taken) hle)⟩

end Sys2Proof.Machine
end
